-- ==== Sys2Proof/Word.lean ====
section
/-! DEFINITION. The word and byte types of the MG3104 (00 section 6.1), and the index types of its records (00 section 4). -/

namespace Sys2Proof

/-- A word: 32 bits (00 section 4). -/
abbrev Word := BitVec 32

/-- A byte of a frame. -/
abbrev Byte := BitVec 8

/-- A physical address on one segment: 28 bits (00 section 4). -/
abbrev PhysAddr := BitVec 28

/-- A row named by an UPKEEP access: 0 to 1023 (R75). -/
abbrev Row := BitVec 10

/-- A requester id, 0 to 7. -/
abbrev Requester := Fin 8

/-- A tag, 0 to 63. -/
abbrev Tag := Fin 64

/-- The (requester, tag) pair of a request (R33). -/
abbrev Pair := Requester × Tag

/-- A window index, 0 to 31 (R1). -/
abbrev WindowIdx := Fin 32

/-- A tracking entry's index, 0 to 15 (R51). -/
abbrev TrackIdx := Fin 16

/-- A segment port, P0 to P3, which serves the segment of the same number. -/
abbrev PortId := Fin 4

/-- A slot id of one port, 0 to 3 (R78). -/
abbrev SlotId := Fin 4

/-- A copy channel, C0 or C1. -/
abbrev ChannelId := Fin 2

end Sys2Proof
end

