-- ==== Sys2Proof/Syntax.lean ====
section
/-! DEFINITION. The commands of the block: one constructor for each row of spec/opcode_table.json, with the operands the
numbered rules give it. -/

namespace Sys2Proof

/-- What a segment device answers to one access (R76). -/
inductive CompletionStatus where
  | ok
  | error
  | retry
  deriving DecidableEq, Repr

/-- A REQUEST frame of the data pool that has passed the frame check, as the Link Interface reads it (R30, 12.2).
`malformed` is the mark of R174 and R190. -/
structure DataFrame where
  requester : Requester
  tag : Tag
  malformed : Bool
  kindCode : Byte
  length : Byte
  address : Word
  payload : List Word
  deriving DecidableEq, Repr

/-- A REQUEST frame of the management pool that has passed the frame check (R159, 12.3), less its command code, which the
constructor of `Instr` stands for. -/
structure MgmtFrame where
  requester : Requester
  tag : Tag
  malformed : Bool
  operands : List Word
  deriving DecidableEq, Repr

/-- The steps of the part, one for each row of spec/opcode_table.json, each whole and indivisible (95). -/
inductive Instr where
  -- power and reset
  | powerOn
  | pinReset
  | resetnDeasserted
  -- arrivals on the Request Link
  | fill
  | frameCheckFailed
  | idle (malformed : Bool)
  | linkReset (malformed : Bool)
  | dataRequest (f : DataFrame)
  | unknownCommand (code : Byte) (f : MgmtFrame)
  -- management commands
  | windowLoad (f : MgmtFrame)
  | windowReplace (f : MgmtFrame)
  | windowClose (f : MgmtFrame)
  | windowRead (f : MgmtFrame)
  | windowFind (f : MgmtFrame)
  | portConfigure (f : MgmtFrame)
  | portEnable (f : MgmtFrame)
  | portDisable (f : MgmtFrame)
  | portReset (f : MgmtFrame)
  | portStatus (f : MgmtFrame)
  | channelLoad (f : MgmtFrame)
  | channelAbort (f : MgmtFrame)
  | channelResume (f : MgmtFrame)
  | channelClear (f : MgmtFrame)
  | channelStatus (f : MgmtFrame)
  | engineStart (f : MgmtFrame)
  | engineQuench (f : MgmtFrame)
  | quiesce (f : MgmtFrame)
  | resume (f : MgmtFrame)
  | stop (f : MgmtFrame)
  | modeStatus (f : MgmtFrame)
  | supervisionSet (f : MgmtFrame)
  | noticeMask (f : MgmtFrame)
  | managersSet (f : MgmtFrame)
  | countersRead (f : MgmtFrame)
  | trackRead (f : MgmtFrame)
  | identRead (f : MgmtFrame)
  | causeRead (f : MgmtFrame)
  -- steps of the part's own blocks
  | dispatch
  | issue (p : PortId)
  | upkeepIssue (p : PortId)
  | copyHalfIssue (p : PortId)
  | bootReadIssue
  | holdTaken (p : PortId)
  | portBecomesHeld (p : PortId)
  | portBecomesStopped (p : PortId)
  | quietReached
  | installReplacement
  | installClose
  -- arrivals at the segment ports
  | completion (p : PortId) (k : SlotId) (st : CompletionStatus) (data : List Word)
  | issueTimerExpiry (p : PortId) (k : SlotId)
  | holdRequestAsserted (p : PortId)
  | holdRequestDeasserted (p : PortId)
  | holdLimitExpiry (p : PortId)
  | resetPulseExpiry (p : PortId)
  | paceLineChange (p : PortId) (level : Bool)
  -- timers
  | upkeepExpiry (p : PortId)
  | drainTimerExpiry
  | supervisionTimerExpiry
  | silenceTimerExpiry
  -- the transmitter
  | takeCredit
  | takeNotice
  | takeResponse
  | responseSent
  | creditSent
  | noticeSent
  deriving DecidableEq, Repr

end Sys2Proof
end

