-- ==== Sys2Proof/Decode.lean ====
section
/-! DEFINITION. Reading a command from a word of spec/opcode_table.json. No row of the table gives bits, so no word spells a
command; the frames on the Request Link are read in Machine/Frame.lean. -/

namespace Sys2Proof

/-- The command a word spells by the table's bits: none, since no row of the table has bits. -/
def decodeTableWord (_nbits _w : Nat) : Option Instr := none

end Sys2Proof
end

