-- ==== Sys2Proof/Config.lean ====
section
/-! DEFINITION. What is fixed in the part: capacities and ranges (00 section 4), the identity of R168, the times behind the
configuration codes of R94. The spec leaves no value of the part open, so there is no free value here. -/

namespace Sys2Proof.Config

/-- The window granule, 1000H bytes. -/
abbrev granule : Nat := 0x1000

/-- The size of the logical address space, 100000000H bytes (R3). -/
abbrev logicalSpace : Nat := 0x100000000

/-- The size of one segment's physical address space, 10000000H bytes (R3). -/
abbrev physicalSpace : Nat := 0x10000000

/-- Request queue capacity, 24 entries, equal to the data credit pool (R38, R175). -/
def dataPool : Nat := 24

/-- Management queue capacity, 2 entries, equal to the management credit pool (R158, R175). -/
def managementPool : Nat := 2

/-- Tracking entries (R51). -/
def trackingEntries : Nat := 16

/-- Notice queue capacity (R150). -/
def noticeQueue : Nat := 8

/-- The response run at which a waiting notice goes first (R154). -/
def responseRun : Nat := 8

/-- The failure run at which an UP link becomes DOWN (R172). -/
def failureRun : Nat := 8

/-- The silence that brings an UP link DOWN, in µs (R173). -/
def silenceMicros : Nat := 64

/-- One step of the supervision period, 4 ms in µs (R134). -/
def supervisionStepMicros : Nat := 4000

/-- µs in one ms. -/
def microsPerMilli : Nat := 1000

/-- Bytes the link moves in 1 µs: 0.02 µs a byte (R178). -/
def bytesPerMicro : Nat := 50

/-- The access timeout in µs behind its code, in the order of R94. -/
def accessTimeoutMicros (code : BitVec 3) : Nat :=
  match code.toNat with
  | 0 => 16
  | 1 => 64
  | 2 => 256
  | 3 => 1000
  | 4 => 4000
  | 5 => 16000
  | 6 => 64000
  | _ => 256000

/-- The upkeep interval in tenths of a µs behind its code (R94, 12.5); 0 stands for off. -/
def intervalTenths (code : BitVec 4) : Nat :=
  match code.toNat with
  | 1 => 78
  | 2 => 156
  | 3 => 312
  | 4 => 625
  | 5 => 1250
  | 6 => 2500
  | 7 => 5000
  | 8 => 10000
  | _ => 0

/-- Family code 4D47H and part code 3104H (R168). -/
def identWord : Word := 0x4D473104

/-- Revision level 1 (R168). -/
def revisionWord : Word := 1

/-- The boot image marker 4D475231H (R185). -/
def bootMarker : Word := 0x4D475231

end Sys2Proof.Config
end

