-- ==== Sys2Proof/Machine/State.lean ====
section
/-! DEFINITION. The state of the MG3104 as plain data: every piece of state the chapters name, block by block, the queue of
waiting commands, and the state after reset. -/

namespace Sys2Proof.Machine

/-! ## Names -/

/-- The kinds of data request (R31). -/
inductive ReqKind where
  | read
  | write
  | swap
  deriving DecidableEq, Repr

/-- The kind of a request with its payload: none for READ, the data words for WRITE, the compare value and the new value for
SWAP (R38). -/
inductive ReqBody where
  | read
  | write (data : List Word)
  | swap (compare new : Word)
  deriving DecidableEq, Repr

/-- The credit pools (R175). -/
inductive Pool where
  | data
  | management
  deriving DecidableEq, Repr

/-- The reason codes of 12.2, but for the code of an absent reason. -/
inductive Reason where
  | mode
  | tagInUse
  | format
  | unmapped
  | spans
  | denied
  | portOff
  | remapped
  | busy
  | badIndex
  | range
  | overlap
  | notLive
  | notFree
  | state
  | unknown
  | segmentError
  | timeout
  | portReset
  | drainExpired
  deriving DecidableEq, Repr

/-- The status of a RESPONSE with its reason: none with OK (R177). -/
inductive Status where
  | ok
  | refused (r : Reason)
  | fault (r : Reason)
  deriving DecidableEq, Repr

/-- The two halves of a SWAP or of a copy unit. -/
inductive Half where
  | read
  | write
  deriving DecidableEq, Repr

/-- An access that has been issued, or waits to be issued again after a RETRY (R99, R183). -/
inductive AccessState where
  | issued
  | waiting
  deriving DecidableEq, Repr

/-- The device modes (R134). -/
inductive Mode where
  | booting
  | run
  | quiescing
  | quiet
  | stop
  deriving DecidableEq, Repr

/-- The causes of a mode change (R143). -/
inductive ModeCause where
  | bootEnd
  | quiesce
  | supervision
  | quietReached
  | stop
  | resume
  | wake
  | linkReset
  deriving DecidableEq, Repr

/-- The boot results (R183). -/
inductive BootResult where
  | notRun
  | absent
  | rejectedFormat
  | rejectedCheck
  | rejectedAccess
  | loaded
  deriving DecidableEq, Repr

/-! ## The Window Table (chapter 1) -/

/-- Window states (R4). -/
inductive WindowState where
  | free
  | live
  | draining
  deriving DecidableEq, Repr

/-- The eight contents fields of a window (R1). -/
structure Contents where
  logicalBase : Word
  /-- in granules -/
  size : Nat
  port : PortId
  physicalBase : PhysAddr
  mayRead : Bool
  mayWrite : Bool
  maySwap : Bool
  /-- bit i stands for requester i -/
  requesters : BitVec 8
  posted : Bool
  strict : Bool
  deriving DecidableEq, Repr

/-- What a DRAINING window waits to install (R1). -/
inductive PendingChange where
  | replacement (c : Contents)
  | close
  deriving DecidableEq, Repr

/-- The pending record with its drain limit in ms, which is present with it (R1). -/
structure PendingRecord where
  change : PendingChange
  drainLimit : BitVec 8
  deriving DecidableEq, Repr

/-- A window record (R1). -/
structure Window where
  state : WindowState
  contents : Contents
  useCount : Nat
  hitCount : Word
  pending : Option PendingRecord
  deriving DecidableEq, Repr

/-- The deferred window operation (R21); its kind is that of the window's pending record. -/
structure DeferredOp where
  index : WindowIdx
  requester : Requester
  tag : Tag
  /-- µs left -/
  timer : Nat
  deriving DecidableEq, Repr

/-! ## The request queue and the Tracking Table (chapters 2 and 3) -/

/-- A request queue entry; the arrival order is the order of the queue (R38). -/
structure QueueEntry where
  requester : Requester
  tag : Tag
  body : ReqBody
  window : WindowIdx
  address : Word
  length : Nat
  deriving DecidableEq, Repr

/-- The state of a tracking entry, with its slot while ISSUED (R51). -/
inductive EntryState where
  | waiting
  | issued (k : SlotId)
  deriving DecidableEq, Repr

/-- The phase of a SWAP; the old value read is kept through the write half (R66). -/
inductive SwapPhase where
  | readHalf
  | writeHalf (old : Word)
  deriving DecidableEq, Repr

/-- A tracking entry in use (R51). The issue timer stands in its slot (R78). -/
structure TrackEntry where
  index : TrackIdx
  requester : Requester
  tag : Tag
  body : ReqBody
  window : WindowIdx
  port : PortId
  physAddr : PhysAddr
  length : Nat
  posted : Bool
  state : EntryState
  /-- present for a SWAP only -/
  phase : Option SwapPhase
  retries : Nat
  deriving DecidableEq, Repr

/-! ## The Segment Ports and the Upkeep Sequencers (chapters 4 and 5) -/

/-- An access command on a segment bus (R75). -/
inductive AccessCommand where
  | read (a : PhysAddr) (count : Nat)
  | write (a : PhysAddr) (data : List Word)
  | upkeep (row : Row)
  deriving DecidableEq, Repr

/-- The holder of an ISSUED slot (R78). -/
inductive Holder where
  | tracking (i : TrackIdx)
  | upkeep
  | copy (c : ChannelId) (h : Half)
  | boot
  deriving DecidableEq, Repr

/-- A slot; while ISSUED it has its holder, its access command and its issue timer in µs (R78). -/
inductive Slot where
  | free
  | issued (h : Holder) (cmd : AccessCommand) (timer : Nat)
  | lingering
  deriving DecidableEq, Repr

/-- What a SETTLING port settles toward (R80). -/
inductive SettleTarget where
  | held
  | stopped
  deriving DecidableEq, Repr

/-- Port states (R80). -/
inductive PortState where
  | disabled
  | active
  | settling (t : SettleTarget)
  | held
  | stopped
  | resetting
  deriving DecidableEq, Repr

/-- The turn of a port (R84). -/
inductive Turn where
  | upstream
  | copy
  deriving DecidableEq, Repr

/-- The configuration of a port, as coded in its port record (R94, 12.5). -/
structure PortConfig where
  accessTimeout : BitVec 3
  retryLimit : BitVec 4
  /-- µs -/
  resetPulse : BitVec 8
  /-- ms; 0 is off -/
  holdLimit : BitVec 8
  /-- 0 is off -/
  interval : BitVec 4
  rowLimit : BitVec 11
  deriving DecidableEq, Repr

/-- The five port counters (R98). -/
structure PortCounters where
  issued : Word
  timeouts : Word
  late : Word
  retries : Word
  stray : Word
  deriving DecidableEq, Repr

/-- A port reset in progress: the pulse timer in µs, and the requester and tag of the deferred answer, absent once a link
reset has abandoned it (R92, R93). -/
structure Pulse where
  timer : Nat
  answerTo : Option Pair
  deriving DecidableEq, Repr

/-- A running interval timer: µs to the next expiry, and the remainder in tenths of a µs (R100). -/
structure IntervalTimer where
  left : Nat
  remainder : Nat
  deriving DecidableEq, Repr

/-- The upkeep in flight (R99). -/
structure UpkeepAccess where
  row : Row
  retries : Nat
  state : AccessState
  deriving DecidableEq, Repr

/-- An Upkeep Sequencer (R99). Its interval and row limit stand in the port's configuration. -/
structure Upkeep where
  timer : Option IntervalTimer
  pending : Bool
  inFlight : Option UpkeepAccess
  rowCounter : Row
  done : Word
  missed : Word
  suppressed : Word
  failed : Word
  lastFailedRow : Option Row
  deriving DecidableEq, Repr

/-- A segment port with its Upkeep Sequencer and its input lines (R78 to R98). -/
structure Port where
  state : PortState
  config : PortConfig
  slots : Vector Slot 4
  freeOrder : List SlotId
  lock : Option TrackIdx
  stallReport : Bool
  turn : Turn
  /-- the hold limit timer, µs left while it runs (R89) -/
  holdTimer : Option Nat
  pulse : Option Pulse
  counters : PortCounters
  upkeep : Upkeep
  /-- the hold request line -/
  holdRequest : Bool
  /-- the pace line -/
  pace : Bool
  deriving DecidableEq, Repr

/-! ## The Copy Engine (chapter 6) -/

/-- Address steps (R113). -/
inductive Step where
  | up
  | down
  | hold
  deriving DecidableEq, Repr

/-- Pace senses (R113). -/
inductive PaceSense where
  | level
  | edge
  deriving DecidableEq, Repr

/-- Pacing; the pace line and sense are stored for PACED only (R113). -/
inductive Pacing where
  | continuous
  | yielding
  | paced (line : PortId) (sense : PaceSense)
  deriving DecidableEq, Repr

/-- A copy descriptor (R113). -/
structure Descriptor where
  srcPort : PortId
  srcAddr : PhysAddr
  srcStep : Step
  dstPort : PortId
  dstAddr : PhysAddr
  dstStep : Step
  /-- words, 1 to 65536 -/
  count : Nat
  pacing : Pacing
  notify : Bool
  deriving DecidableEq, Repr

/-- Channel states (R112). -/
inductive ChannelState where
  | idle
  | running
  | paused
  | faulted
  | aborting
  deriving DecidableEq, Repr

/-- The current descriptor with the progress that is present with it (R111). -/
structure CurrentCopy where
  desc : Descriptor
  remaining : Nat
  src : PhysAddr
  dst : PhysAddr
  deriving DecidableEq, Repr

/-- The phase of a unit, with the word read in WRITE HALF (R115). -/
inductive UnitPhase where
  | readHalf
  | writeHalf (word : Word)
  deriving DecidableEq, Repr

/-- The half state of a unit, with its slot while ISSUED (R115). -/
inductive HalfState where
  | ready
  | issued (k : SlotId)
  | waiting
  deriving DecidableEq, Repr

/-- The unit in flight (R115). Its port is the descriptor's source or destination port by its phase. -/
structure CopyUnit where
  phase : UnitPhase
  half : HalfState
  retries : Nat
  deriving DecidableEq, Repr

/-- The last fault of a channel (R111). -/
structure CopyFault where
  half : Half
  reason : Reason
  deriving DecidableEq, Repr

/-- A copy channel (R111). -/
structure Channel where
  state : ChannelState
  current : Option CurrentCopy
  pending : Option Descriptor
  unit : Option CopyUnit
  permit : Bool
  lastFault : Option CopyFault
  deriving DecidableEq, Repr

/-! ## The Mode Controller (chapter 7) -/

/-- The supervision timer; µs left while RUNNING (R144). -/
inductive SupervisionTimer where
  | off
  | running (left : Nat)
  | expired
  deriving DecidableEq, Repr

/-- The Mode Controller (R134). -/
structure ModeController where
  mode : Mode
  stopOnQuiet : Bool
  /-- steps of 4 ms; 0 is off -/
  period : BitVec 8
  timer : SupervisionTimer
  wakeOnRequest : Bool
  queueEmpty : Bool
  trackingEmpty : Bool
  unitsInFlight : Bool
  deriving DecidableEq, Repr

/-! ## Notices (chapter 8) -/

/-- A notice as its block raises it: the kind, with the fields of its subject and of its detail (R149). -/
inductive Notice where
  | bootResult (r : BootResult)
  | postedFault (w : WindowIdx) (requester : Requester) (tag : Tag) (address : Word) (reason : Reason)
  | lateCompletion (p : PortId) (k : SlotId)
  | strayCompletion (p : PortId) (k : SlotId)
  | portStalled (p : PortId)
  | holdOverlong (p : PortId)
  | upkeepFailed (p : PortId) (row : Row)
  | copyDone (c : ChannelId) (count : Nat)
  | copyFault (c : ChannelId) (half : Half) (reason : Reason) (remaining : Nat)
  | copyAborted (c : ChannelId) (remaining : Nat)
  | supervisionExpired
  | modeChanged (new previous : Mode) (cause : ModeCause)
  | creditOverrun (pool : Pool)
  | linkRestored
  deriving DecidableEq, Repr

/-- A record of the notice queue (R149). -/
structure NoticeRecord where
  notice : Notice
  count : Nat
  deriving DecidableEq, Repr

/-- The Notice Unit (R150). Bit k of the mask enables kind code k. -/
structure NoticeUnit where
  queue : List NoticeRecord
  mask : BitVec 15
  lost : Nat
  run : Nat
  deriving DecidableEq, Repr

/-! ## Management (chapter 9) -/

/-- The management commands of section 9.5 of chapter 9. -/
inductive Command where
  | windowLoad
  | windowReplace
  | windowClose
  | windowRead
  | windowFind
  | portConfigure
  | portEnable
  | portDisable
  | portReset
  | portStatus
  | channelLoad
  | channelAbort
  | channelResume
  | channelClear
  | channelStatus
  | engineStart
  | engineQuench
  | quiesce
  | resume
  | stop
  | modeStatus
  | supervisionSet
  | noticeMask
  | managersSet
  | countersRead
  | trackRead
  | identRead
  | causeRead
  deriving DecidableEq, Repr

/-- The phase of a management queue entry (R158). -/
inductive MgmtPhase where
  | deferred
  | answered
  deriving DecidableEq, Repr

/-- A management queue entry (R158). -/
structure MgmtEntry where
  requester : Requester
  tag : Tag
  command : Command
  phase : MgmtPhase
  deriving DecidableEq, Repr

/-! ## The Request Link (chapter 10) -/

/-- A RESPONSE record (R177). -/
structure Response where
  requester : Requester
  tag : Tag
  pool : Pool
  status : Status
  partialMark : Bool
  swapped : Option Bool
  data : List Word
  refusalMark : Bool
  deriving DecidableEq, Repr

/-- The frames the transmitter takes (R178); a NOTICE frame carries the lost count that stood when it was taken (R153). -/
inductive SentFrame where
  | response (r : Response)
  | notice (n : NoticeRecord) (lost : Nat)
  | credit
  deriving DecidableEq, Repr

/-- The frame in transmission: whether its sending still has an effect, which a link reset takes from it (R179), and the
bytes still to leave the part (R178). -/
structure Transmission where
  frame : SentFrame
  effective : Bool
  bytesLeft : Nat
  deriving DecidableEq, Repr

/-- The Link Interface (R170). -/
structure LinkInterface where
  up : Bool
  /-- µs left while it runs -/
  silence : Option Nat
  failureRun : Nat
  dataCredit : Nat
  mgmtCredit : Nat
  creditPending : Bool
  responses : List Response
  transmission : Option Transmission
  checkErrors : Word
  overruns : Word
  malformed : Word
  deriving DecidableEq, Repr

/-! ## Start-up (chapter 11) -/

/-- Boot phases (R183). -/
inductive BootPhase where
  | header
  | body
  | finished
  deriving DecidableEq, Repr

/-- The boot read in flight (R183). -/
structure BootRead where
  address : PhysAddr
  count : Nat
  retries : Nat
  state : AccessState
  deriving DecidableEq, Repr

/-- The Boot Reader (R183). -/
structure BootReader where
  phase : BootPhase
  staging : List Word
  nextAddr : PhysAddr
  inFlight : Option BootRead
  result : BootResult
  deriving DecidableEq, Repr

/-- Reset causes (R188). -/
inductive ResetCause where
  | powerOn
  | pin
  | link
  deriving DecidableEq, Repr

/-- The Cause Record (R188). -/
structure CauseRecord where
  last : ResetCause
  /-- absent is NONE -/
  modeAtReset : Option Mode
  /-- absent is NONE -/
  previous : Option ResetCause
  resetCount : Nat
  bootResult : BootResult
  deriving DecidableEq, Repr

/-! ## The state -/

/-- The whole part, with the queue of the commands that wait, first in, first out. -/
structure State where
  pending : List Instr
  /-- the pin RESETN is asserted (R182) -/
  resetn : Bool
  windows : Vector Window 32
  deferred : Option DeferredOp
  requestQueue : List QueueEntry
  /-- the pairs in use, without repeats (R33) -/
  tags : List Pair
  /-- the entries in use, oldest dispatched first (R51, R52) -/
  tracking : List TrackEntry
  ports : Vector Port 4
  engineEnable : Bool
  channels : Vector Channel 2
  mc : ModeController
  nu : NoticeUnit
  mgmtQueue : List MgmtEntry
  /-- bit i stands for requester i (R158) -/
  managers : BitVec 8
  li : LinkInterface
  boot : BootReader
  cause : CauseRecord
  deriving DecidableEq, Repr

/-- No fault exists: nothing in the spec stops the part, whose failures are answers and notices (R31, R70, R163). -/
inductive Fault where
  deriving DecidableEq, Repr

/-- The reasons a command is refused by the model. -/
inductive Refusal where
  /-- Raised by exec for a command that has no meaning yet; safe. No command is left without one. -/
  | notModelled (mnemonic : String)
  deriving DecidableEq, Repr

/-! ## The values after power-on -/

/-- The zero encoding of every contents field (R5, 12.4): the size field holds the size less 1. -/
def Contents.zero : Contents where
  logicalBase := 0
  size := 1
  port := 0
  physicalBase := 0
  mayRead := false
  mayWrite := false
  maySwap := false
  requesters := 0
  posted := false
  strict := false

/-- A window after power-on (R5). -/
def Window.initial : Window where
  state := .free
  contents := .zero
  useCount := 0
  hitCount := 0
  pending := none

/-- The default configuration of R94: 1 ms, 3, 16 µs, off, off, 1024. -/
def PortConfig.default : PortConfig where
  accessTimeout := 3
  retryLimit := 3
  resetPulse := 16
  holdLimit := 0
  interval := 0
  rowLimit := 1024

/-- Port counters at 0 (R81). -/
def PortCounters.zero : PortCounters where
  issued := 0
  timeouts := 0
  late := 0
  retries := 0
  stray := 0

/-- An Upkeep Sequencer after power-on (R99). -/
def Upkeep.initial : Upkeep where
  timer := none
  pending := false
  inFlight := none
  rowCounter := 0
  done := 0
  missed := 0
  suppressed := 0
  failed := 0
  lastFailedRow := none

/-- A port after power-on, in the given state (R81). The levels of the input lines are a DESIGN CHOICE: unsafe, log 5. -/
def Port.initial (st : PortState) : Port where
  state := st
  config := .default
  slots := #v[.free, .free, .free, .free]
  freeOrder := [0, 1, 2, 3]
  lock := none
  stallReport := false
  turn := .upstream
  holdTimer := none
  pulse := none
  counters := .zero
  upkeep := .initial
  holdRequest := false
  pace := false

/-- A copy channel after power-on, and whenever it is IDLE (R111). -/
def Channel.initial : Channel where
  state := .idle
  current := none
  pending := none
  unit := none
  permit := false
  lastFault := none

/-- The Mode Controller after power-on (R134). -/
def ModeController.initial : ModeController where
  mode := .booting
  stopOnQuiet := false
  period := 0
  timer := .off
  wakeOnRequest := false
  queueEmpty := true
  trackingEmpty := true
  unitsInFlight := false

/-- The Notice Unit after power-on: all fourteen kinds are enabled (R150). -/
def NoticeUnit.initial : NoticeUnit where
  queue := []
  mask := 0x7FFE
  lost := 0
  run := 0

/-- The Link Interface after power-on (R170). -/
def LinkInterface.initial : LinkInterface where
  up := false
  silence := none
  failureRun := 0
  dataCredit := 0
  mgmtCredit := 0
  creditPending := false
  responses := []
  transmission := none
  checkErrors := 0
  overruns := 0
  malformed := 0

/-- The Boot Reader after power-on (R183). -/
def BootReader.initial : BootReader where
  phase := .header
  staging := []
  nextAddr := 0
  inFlight := none
  result := .notRun

/-- The Cause Record after power-on (R188). -/
def CauseRecord.powerOn : CauseRecord where
  last := .powerOn
  modeAtReset := none
  previous := none
  resetCount := 1
  bootResult := .notRun

/-- The part right after power-on: every block at the values its chapter gives (R182), P0 ACTIVE and the others DISABLED
(R81), the managers set {0} (R158), nothing waiting in the queue. -/
def State.reset : State where
  pending := []
  resetn := false
  windows := Vector.replicate 32 .initial
  deferred := none
  requestQueue := []
  tags := []
  tracking := []
  ports := #v[.initial .active, .initial .disabled, .initial .disabled, .initial .disabled]
  engineEnable := true
  channels := #v[.initial, .initial]
  mc := .initial
  nu := .initial
  mgmtQueue := []
  managers := 1
  li := .initial
  boot := .initial
  cause := .powerOn

end Sys2Proof.Machine
end

