-- ==== Sys2Proof/Machine/Ops.lean ====
section
/-! DEFINITION. The named operations over the state that the steps share: reading and updating records, raising notices,
building responses, the reports to the Mode Controller, slots, timers, and the changes of device mode. -/

namespace Sys2Proof.Machine

/-! ## Records by index -/

/-- The vector of the values of f. It is irreducible so that no elaboration unfolds a table of 32 records. -/
@[irreducible] def tabulate {α : Type} {n : Nat} (f : Fin n → α) : Vector α n := Vector.ofFn f

/-- Window record i. -/
def State.window (s : State) (i : WindowIdx) : Window := s.windows[i]

/-- The state with window record i replaced. -/
def State.setWindow (s : State) (i : WindowIdx) (w : Window) : State := { s with windows := s.windows.set i w }

/-- The state with every window record changed by f. -/
def State.mapWindows (s : State) (f : Window → Window) : State :=
  { s with windows := tabulate fun i => f s.windows[i] }

/-- Port p. -/
def State.port (s : State) (p : PortId) : Port := s.ports[p]

/-- The state with port p changed by f. -/
def State.updPort (s : State) (p : PortId) (f : Port → Port) : State := { s with ports := s.ports.set p (f s.ports[p]) }

/-- The state with every port changed by f. -/
def State.mapPorts (s : State) (f : Port → Port) : State := { s with ports := tabulate fun p => f s.ports[p] }

/-- Copy channel c. -/
def State.channel (s : State) (c : ChannelId) : Channel := s.channels[c]

/-- The state with channel c replaced. -/
def State.setChannel (s : State) (c : ChannelId) (ch : Channel) : State := { s with channels := s.channels.set c ch }

/-- The state with both channels changed by f. -/
def State.mapChannels (s : State) (f : Channel → Channel) : State :=
  { s with channels := tabulate fun c => f s.channels[c] }

/-- Tracking entry i, when it is in use (R51). -/
def State.entry? (s : State) (i : TrackIdx) : Option TrackEntry := s.tracking.find? fun e => e.index == i

/-- The free tracking entry with the lowest index (R52). -/
def State.freeIndex? (s : State) : Option TrackIdx :=
  (List.finRange 16).find? fun i => !s.tracking.any fun e => e.index == i

/-- The state with tracking entry i changed by f; its place in dispatch order stays (R52). -/
def State.updEntry (s : State) (i : TrackIdx) (f : TrackEntry → TrackEntry) : State :=
  { s with tracking := s.tracking.map fun e => if e.index = i then f e else e }

/-! ## Notices (R149 to R151) -/

/-- What a notice is about (R149). -/
inductive Subject where
  | link
  | window (w : WindowIdx)
  | port (p : PortId)
  | channel (c : ChannelId)
  | mode (m : Mode)
  deriving DecidableEq, Repr

/-- Kind codes, in the order of the table of R149 (12.2). -/
def Notice.kindCode : Notice → Nat
  | .bootResult _ => 1
  | .postedFault .. => 2
  | .lateCompletion .. => 3
  | .strayCompletion .. => 4
  | .portStalled _ => 5
  | .holdOverlong _ => 6
  | .upkeepFailed .. => 7
  | .copyDone .. => 8
  | .copyFault .. => 9
  | .copyAborted .. => 10
  | .supervisionExpired => 11
  | .modeChanged .. => 12
  | .creditOverrun _ => 13
  | .linkRestored => 14

/-- The subject of a notice (R149). -/
def Notice.subject : Notice → Subject
  | .bootResult _ => .link
  | .postedFault w .. => .window w
  | .lateCompletion p _ => .port p
  | .strayCompletion p _ => .port p
  | .portStalled p => .port p
  | .holdOverlong p => .port p
  | .upkeepFailed p _ => .port p
  | .copyDone c _ => .channel c
  | .copyFault c .. => .channel c
  | .copyAborted c _ => .channel c
  | .supervisionExpired => .link
  | .modeChanged m .. => .mode m
  | .creditOverrun _ => .link
  | .linkRestored => .link

/-- Kind and subject together are the identity of a notice (R149). -/
def Notice.sameIdentity (a b : Notice) : Bool := a.kindCode == b.kindCode && a.subject == b.subject

/-- A later notice of the same identity merges into a record: the count saturates at 255, the detail is replaced (R151). -/
def NoticeRecord.merge (r : NoticeRecord) (n : Notice) : NoticeRecord := { notice := n, count := min 255 (r.count + 1) }

/-- The kind of a notice is enabled (R150). -/
def NoticeUnit.enabled (u : NoticeUnit) (n : Notice) : Bool := u.mask.getLsbD n.kindCode

/-- A raised notice: discarded, merged, appended, or dropped and counted lost, in this order (R151). -/
def NoticeUnit.raise (u : NoticeUnit) (n : Notice) : NoticeUnit :=
  if !u.enabled n then u
  else if u.queue.any fun r => r.notice.sameIdentity n then
    { u with queue := u.queue.map fun r => if r.notice.sameIdentity n then r.merge n else r }
  else if u.queue.length < Config.noticeQueue then { u with queue := u.queue ++ [{ notice := n, count := 1 }] }
  else { u with lost := min 65535 (u.lost + 1) }

/-- A block raises a notice to the Notice Unit (R151). -/
def State.raise (s : State) (n : Notice) : State := { s with nu := s.nu.raise n }

/-! ## Responses and the tag set (R33, R177) -/

/-- A RESPONSE is placed at the tail of the response queue (R177). -/
def State.respond (s : State) (r : Response) : State := { s with li := { s.li with responses := s.li.responses ++ [r] } }

/-- A refusal, with or without the refusal mark (R37, R163). -/
def refusal (requester : Requester) (tag : Tag) (pool : Pool) (reason : Reason) (mark : Bool) : Response where
  requester := requester
  tag := tag
  pool := pool
  status := .refused reason
  partialMark := false
  swapped := none
  data := []
  refusalMark := mark

/-- An OK answer with its data words (R70, R160). -/
def okResponse (requester : Requester) (tag : Tag) (pool : Pool) (data : List Word) : Response where
  requester := requester
  tag := tag
  pool := pool
  status := .ok
  partialMark := false
  swapped := none
  data := data
  refusalMark := false

/-- A deferred answer with its status: management pool, no data (R161). -/
def deferredResponse (requester : Requester) (tag : Tag) (status : Status) : Response where
  requester := requester
  tag := tag
  pool := .management
  status := status
  partialMark := false
  swapped := none
  data := []
  refusalMark := false

/-- A pair enters the tag set (R33). -/
def State.enterTag (s : State) (p : Pair) : State := { s with tags := s.tags ++ [p] }

/-- A pair leaves the tag set (R33). -/
def State.releaseTag (s : State) (p : Pair) : State := { s with tags := s.tags.filter fun q => q ≠ p }

/-- The management queue entry of a deferred command becomes ANSWERED (R160, R161). -/
def MgmtEntry.answer (p : Pair) (e : MgmtEntry) : MgmtEntry :=
  if (e.requester, e.tag) = p ∧ e.phase = .deferred then { e with phase := .answered } else e

/-- The answer to a placed management command is built: its RESPONSE joins the response queue and its entry becomes ANSWERED
(R160, R161). -/
def State.answerMgmt (s : State) (r : Response) : State :=
  { s.respond r with mgmtQueue := s.mgmtQueue.map (MgmtEntry.answer (r.requester, r.tag)) }

/-! ## The reports to the Mode Controller (R48, R52, R112) -/

/-- The Admission Unit reports whether the request queue is empty (R48). -/
def State.reportQueue (s : State) : State := { s with mc := { s.mc with queueEmpty := s.requestQueue.isEmpty } }

/-- The Tracking Table reports whether it is empty (R52). -/
def State.reportTracking (s : State) : State := { s with mc := { s.mc with trackingEmpty := s.tracking.isEmpty } }

/-- Some channel has a unit in flight (R112). -/
def State.someUnit (s : State) : Bool := (s.channel 0).unit.isSome || (s.channel 1).unit.isSome

/-- The Copy Engine reports whether a unit is in flight (R112). -/
def State.reportUnits (s : State) : State := { s with mc := { s.mc with unitsInFlight := s.someUnit } }

/-! ## Slots and counters of a port (R78, R98) -/

/-- Slot k of a port. -/
def Port.slot (p : Port) (k : SlotId) : Slot := p.slots[k]

/-- The port with slot k replaced. -/
def Port.setSlot (p : Port) (k : SlotId) (sl : Slot) : Port := { p with slots := p.slots.set k sl }

/-- A slot is freed and joins the tail of the free-slot order (R78). -/
def Port.freeSlot (p : Port) (k : SlotId) : Port :=
  { p with slots := p.slots.set k .free, freeOrder := p.freeOrder ++ [k] }

/-- Every slot is free, in the order 0, 1, 2, 3 (R81, R92). -/
def Port.clearSlots (p : Port) : Port :=
  { p with slots := #v[.free, .free, .free, .free], freeOrder := [0, 1, 2, 3] }

/-- An access command is sent in slot k, which is ISSUED with its holder and a fresh issue timer, and is counted (R78, R98). -/
def Port.sendIn (p : Port) (k : SlotId) (h : Holder) (cmd : AccessCommand) : Port :=
  { p with
    slots := p.slots.set k (.issued h cmd (Config.accessTimeoutMicros p.config.accessTimeout))
    counters := { p.counters with issued := p.counters.issued + 1 } }

/-- An access is issued in the slot at the head of the free-slot order, which leaves the list (R78). -/
def Port.issueIn (p : Port) (k : SlotId) (h : Holder) (cmd : AccessCommand) : Port :=
  { p.sendIn k h cmd with freeOrder := p.freeOrder.tail }

/-- A RETRY is counted (R98). -/
def Port.countRetry (p : Port) : Port := { p with counters := { p.counters with retries := p.counters.retries + 1 } }

/-- A timeout is counted (R98). -/
def Port.countTimeout (p : Port) : Port := { p with counters := { p.counters with timeouts := p.counters.timeouts + 1 } }

/-- A late completion is counted (R98). -/
def Port.countLate (p : Port) : Port := { p with counters := { p.counters with late := p.counters.late + 1 } }

/-- A stray completion is counted (R98). -/
def Port.countStray (p : Port) : Port := { p with counters := { p.counters with stray := p.counters.stray + 1 } }

/-- The SWAP lock is released if tracking entry i holds it (R68). -/
def Port.unlock (p : Port) (i : TrackIdx) : Port := if p.lock = some i then { p with lock := none } else p

/-- The hold limit timer of a hold that begins now, in µs (R88). -/
def Port.freshHoldTimer (p : Port) : Option Nat :=
  if p.config.holdLimit = 0 then none else some (p.config.holdLimit.toNat * Config.microsPerMilli)

/-! ## The interval timer (R100) -/

/-- The timer for the next interval, carrying a remainder in tenths of a µs: the gap is rounded down to a whole µs. -/
def IntervalTimer.next (code : BitVec 4) (remainder : Nat) : IntervalTimer :=
  let total := Config.intervalTenths code + remainder
  { left := total / 10, remainder := total % 10 }

/-- The interval timer as it starts or restarts: off stays halted, otherwise remainder 0 (R100). -/
def freshInterval (code : BitVec 4) : Option IntervalTimer := if code = 0 then none else some (.next code 0)

/-- The interval timer of a port starts or restarts (R100). -/
def Port.startInterval (p : Port) : Port := { p with upkeep := { p.upkeep with timer := freshInterval p.config.interval } }

/-- The interval timer of a port is halted (R100). -/
def Port.haltInterval (p : Port) : Port := { p with upkeep := { p.upkeep with timer := none } }

/-- A pending upkeep is cleared and counted missed (R102, R103). -/
def Upkeep.clearMissed (u : Upkeep) : Upkeep := if u.pending then { u with pending := false, missed := u.missed + 1 } else u

/-- A pending upkeep is discarded and counted suppressed (R88). -/
def Upkeep.clearSuppressed (u : Upkeep) : Upkeep :=
  if u.pending then { u with pending := false, suppressed := u.suppressed + 1 } else u

/-! ## Transitions of a port into and out of rest (R88, R91, R102) -/

/-- A port becomes HELD with a fresh hold limit timer (R88). -/
def Port.enterHeld (p : Port) : Port := { p with state := .held, holdTimer := p.freshHoldTimer }

/-- A STOPPED port becomes HELD at once; its interval timer restarts (R90, R102). -/
def Port.stoppedToHeld (p : Port) : Port := p.enterHeld.startInterval

/-- A port becomes STOPPED: a pending upkeep is cleared as missed and the interval timer halts. With the hold request
asserted it becomes HELD in the same event (R90, R91, R102). -/
def Port.enterStopped (p : Port) : Port :=
  let q := { p with state := .stopped, upkeep := { p.upkeep.clearMissed with timer := none } }
  if p.holdRequest then q.stoppedToHeld else q

/-- Some slot is ISSUED (R80). -/
def Slot.isIssued : Slot → Bool
  | .issued .. => true
  | .free => false
  | .lingering => false

/-- Some slot of the port is ISSUED (R80). -/
def Port.anyIssued (p : Port) : Bool :=
  (p.slot 0).isIssued || (p.slot 1).isIssued || (p.slot 2).isIssued || (p.slot 3).isIssued

/-- The port is told that the mode has entered STOP (R91). -/
def Port.modeEntersStop (p : Port) : Port :=
  match p.state with
  | .active => if p.anyIssued then { p with state := .settling .stopped } else p.enterStopped
  | _ => p

/-- The port is told that the mode has left STOP; from STOPPED one catch-up upkeep is set and the interval timer restarts,
unless the interval is off (R91, R102). -/
def Port.modeLeavesStop (p : Port) : Port :=
  match p.state with
  | .settling .stopped => { p with state := .active }
  | .stopped =>
    { p with
      state := .active
      upkeep := { p.upkeep with
        pending := p.upkeep.pending || p.config.interval != 0
        timer := freshInterval p.config.interval } }
  | _ => p

/-! ## The Mode Controller (R134 to R144) -/

/-- The supervision timer restarts with the period held; off stays OFF (R144). -/
def ModeController.restart (m : ModeController) : ModeController :=
  { m with
    timer := if m.period = 0 then .off else .running (m.period.toNat * Config.supervisionStepMicros) }

/-- The device mode changes, and MODE_CHANGED is raised with the previous mode and the cause (R143). -/
def State.changeMode (s : State) (m : Mode) (cause : ModeCause) : State :=
  { s with mc := { s.mc with mode := m } }.raise (.modeChanged m s.mc.mode cause)

/-- The mode becomes STOP and every port is told (R139). -/
def State.enterStop (s : State) (cause : ModeCause) : State :=
  (s.changeMode .stop cause).mapPorts Port.modeEntersStop

/-- The mode leaves STOP for RUN and every port is told (R140, R141). -/
def State.leaveStop (s : State) (cause : ModeCause) : State :=
  (s.changeMode .run cause).mapPorts Port.modeLeavesStop

/-! ## The Copy Engine (R111, R130) -/

/-- A channel in the quench event: RUNNING with no unit in flight becomes PAUSED (R130). -/
def Channel.quench (ch : Channel) : Channel :=
  if ch.state = .running ∧ ch.unit = none then { ch with state := .paused } else ch

/-- A quench clears the engine enable; channels stop at unit boundaries (R130). -/
def State.quench (s : State) : State := { s with engineEnable := false }.mapChannels Channel.quench

/-! ## The Request Link (R173 to R176) -/

/-- Fill or a frame that passes the check is recognised: the silence timer restarts; a DOWN link becomes UP with its failure
run at 0 (R173). -/
def LinkInterface.seen (l : LinkInterface) : LinkInterface :=
  { l with up := true, silence := some Config.silenceMicros, failureRun := if l.up then l.failureRun else 0 }

/-- LINK_RESTORED is raised if the link was DOWN before the event (R173). -/
def State.raiseRestored (s : State) (wasUp : Bool) : State := if wasUp then s else s.raise .linkRestored

/-- A frame that passes the check: the link is seen, the failure run is 0, the supervision timer restarts; the notice of a
link that came UP is left to the caller (R172, R173, R174). -/
def State.validFrame (s : State) : State :=
  { s with li := { s.li.seen with failureRun := 0 }, mc := s.mc.restart }

/-- The credit balance of a pool (R175). -/
def LinkInterface.credit (l : LinkInterface) : Pool → Nat
  | .data => l.dataCredit
  | .management => l.mgmtCredit

/-- A credit balance is replaced. -/
def LinkInterface.setCredit (l : LinkInterface) (pool : Pool) (n : Nat) : LinkInterface :=
  match pool with
  | .data => { l with dataCredit := n }
  | .management => { l with mgmtCredit := n }

/-- A REQUEST that finds its pool's balance at 0 is an overrun: discarded, counted and reported (R175). -/
def State.overrun (s : State) (pool : Pool) : State :=
  { s with li := { s.li with overruns := s.li.overruns + 1 } }.raise (.creditOverrun pool)

/-- A REQUEST is charged against its pool, and counted if malformed (R174, R175). -/
def State.charge (s : State) (pool : Pool) (malformed : Bool) : State :=
  let l := s.li.setCredit pool (s.li.credit pool - 1)
  { s with li := if malformed then { l with malformed := l.malformed + 1 } else l }

/-- A REQUEST frame of a pool that has passed the check: received, tested for credit, charged, and delivered (R174, R175).
While RESETN is asserted no frame is received (R182). -/
def State.receiveRequest (s : State) (pool : Pool) (malformed : Bool) (deliver : State → State) : State :=
  if s.resetn then s
  else
    let r := s.validFrame.raiseRestored s.li.up
    if r.li.credit pool = 0 then r.overrun pool else deliver (r.charge pool malformed)

/-- An event that the part does not take while RESETN is asserted (R182). -/
def State.unlessReset (s : State) (f : State → State) : State := if s.resetn then s else f s

end Sys2Proof.Machine
end

