-- ==== Sys2Proof/Machine/Operands.lean ====
section
/-! DEFINITION. Every operand form: the fields of the operand words of management commands and of the boot image (12.3 to
12.5), the checks of validity (R3, R94, R113), and the format check of a data request (R35). -/

namespace Sys2Proof.Machine

/-! ## Bit fields -/

/-- The field of w of the given width that starts at bit lo. -/
def field (w : Word) (lo width : Nat) : BitVec width := w.extractLsb' lo width

/-- Bit k of w is set. -/
def bit (w : Word) (k : Nat) : Bool := w.getLsbD k

/-- The bits of w under a mask, those marked zero in a layout, are all zero (R190). -/
def zeroUnder (w mask : Word) : Bool := w &&& mask == 0

/-- The index in bits 7 to 0 of a word, when it lies below n; otherwise BAD_INDEX applies (12.3). -/
def indexBelow (n : Nat) (w : Word) : Option (Fin n) :=
  if h : (field w 0 8).toNat < n then some ⟨(field w 0 8).toNat, h⟩ else none

/-- The 2-bit port field that starts at bit lo. -/
def portField (w : Word) (lo : Nat) : PortId := (field w lo 2).toFin

/-! ## Window contents (R1, R3, 12.4) -/

/-- The first logical address of a contents (R2). -/
abbrev Contents.first (c : Contents) : Nat := c.logicalBase.toNat

/-- One past the last logical address of a contents (R2). -/
abbrev Contents.past (c : Contents) : Nat := c.logicalBase.toNat + c.size * Config.granule

/-- A contents is valid (R3); its port, rights, requester set, posting and order are valid by their types. -/
def Contents.valid (c : Contents) : Bool :=
  c.logicalBase.toNat % Config.granule == 0 && c.past ≤ Config.logicalSpace
    && 1 ≤ c.size && c.size ≤ 65536
    && c.physicalBase.toNat % Config.granule == 0
    && c.physicalBase.toNat + c.size * Config.granule ≤ Config.physicalSpace

/-- The bits a window record marks zero are zero (12.4). -/
def windowRecordZeros (w0 w2 w3 : Word) : Bool :=
  zeroUnder w0 0x00000F00 && zeroUnder w2 0xFFFCC800 && w3 == 0

/-- The contents a window record's words carry (12.4). -/
def windowRecordContents (w0 w1 w2 : Word) : Contents where
  logicalBase := w0 &&& 0xFFFFF000
  size := (field w1 0 16).toNat + 1
  port := portField w2 12
  physicalBase := (field w1 16 16).setWidth 28 <<< 12
  mayRead := bit w2 8
  mayWrite := bit w2 9
  maySwap := bit w2 10
  requesters := field w2 0 8
  posted := bit w2 16
  strict := bit w2 17

/-- The contents of a window record whose bits marked zero are zero and which is valid; otherwise RANGE applies (R3, R190). -/
def windowRecord (w0 w1 w2 w3 : Word) : Option Contents :=
  let c := windowRecordContents w0 w1 w2
  if windowRecordZeros w0 w2 w3 && c.valid then some c else none

/-- A drain limit of 1 to 255 ms (R3). -/
def drainLimit (b : BitVec 8) : Option (BitVec 8) := if b = 0 then none else some b

/-! ## Port records (R94, 12.5) -/

/-- The configuration in the two words of a port record, when its bits marked zero (other than the enable field) are zero
and every setting lies in its values (R94, 12.5). -/
def portRecord (a b : Word) : Option PortConfig :=
  let c : PortConfig :=
    { accessTimeout := field a 4 3, retryLimit := field a 8 4, resetPulse := field a 16 8, holdLimit := field a 24 8,
      interval := field b 0 4, rowLimit := field b 16 11 }
  if zeroUnder a 0x0000F08C && zeroUnder b 0xF800FFF0 && c.resetPulse != 0 && c.interval ≤ 8
      && c.rowLimit != 0 && c.rowLimit ≤ 1024 then some c
  else none

/-- The enable flag of a port record: 00 clear, 01 set, no other value (R185, 12.5). -/
def enableFlag (a : Word) : Option Bool :=
  match (field a 0 2).toNat with
  | 0 => some false
  | 1 => some true
  | _ => none

/-! ## The supervision word (R146, 12.5) -/

/-- The supervision period and wake-on-request of a supervision word whose bits marked zero are zero. -/
def supervisionWord (w : Word) : Option (BitVec 8 × Bool) :=
  if zeroUnder w 0xFFFFFE00 then some (field w 0 8, bit w 8) else none

/-! ## Copy descriptors (R113, 12.4) -/

/-- A step code; 3 names no value. -/
def stepCode (b : BitVec 2) : Option Step :=
  match b.toNat with
  | 0 => some .up
  | 1 => some .down
  | 2 => some .hold
  | _ => none

/-- The pacing of descriptor word 2; code 3 names no value. Pace line and sense are read for PACED only (R113). -/
def pacingField (w : Word) : Option Pacing :=
  match (field w 16 2).toNat with
  | 0 => some .continuous
  | 1 => some .yielding
  | 2 => some (.paced (portField w 18) (if bit w 20 then .edge else .level))
  | _ => none

/-- The run of one side of a descriptor stays inside the segment (R113). -/
def runInside (a : PhysAddr) (st : Step) (count : Nat) : Bool :=
  a.toNat % 4 == 0 &&
    match st with
    | .up => a.toNat + 4 * (count - 1) ≤ 0x0FFFFFFC
    | .down => 4 * (count - 1) ≤ a.toNat
    | .hold => true

/-- A descriptor is valid; fields that are typed lie in their values (R113). -/
def Descriptor.valid (d : Descriptor) : Bool :=
  1 ≤ d.count && d.count ≤ 65536 && runInside d.srcAddr d.srcStep d.count && runInside d.dstAddr d.dstStep d.count

/-- The descriptor in three words, when every code names a value, the bits marked zero are zero and it is valid; otherwise
RANGE applies (R113, R190). -/
def descriptorWords (w0 w1 w2 : Word) : Option Descriptor :=
  match stepCode (field w0 30 2), stepCode (field w1 30 2), pacingField w2 with
  | some ss, some ds, some pc =>
    let d : Descriptor :=
      { srcPort := portField w0 28, srcAddr := field w0 0 28, srcStep := ss,
        dstPort := portField w1 28, dstAddr := field w1 0 28, dstStep := ds,
        count := (field w2 0 16).toNat + 1, pacing := pc, notify := bit w2 24 }
    if zeroUnder w2 0xFEE00000 && d.valid then some d else none
  | _, _, _ => none

/-! ## Data requests (R35) -/

/-- The kind of a request (R31). -/
def ReqBody.kind : ReqBody → ReqKind
  | .read => .read
  | .write _ => .write
  | .swap _ _ => .swap

end Sys2Proof.Machine

namespace Sys2Proof

/-! ## The fields of a received frame -/

/-- The operand word k of a command; 0 past the last. -/
def MgmtFrame.word (f : MgmtFrame) (k : Nat) : Word := f.operands.getD k 0

/-- The pair of a command. -/
def MgmtFrame.pair (f : MgmtFrame) : Pair := (f.requester, f.tag)

/-- The kind and payload of a data request that passes the format check; none is a FORMAT refusal (R35). -/
def DataFrame.body? (f : DataFrame) : Option Machine.ReqBody :=
  if f.malformed || f.length.toNat == 0 || decide (16 < f.length.toNat) || f.address.toNat % 4 != 0 then none
  else
    match f.kindCode.toNat with
    | 1 => if f.payload.isEmpty then some .read else none
    | 2 => if f.payload.length = f.length.toNat then some (.write f.payload) else none
    | 3 =>
      match f.payload with
      | [c, n] => if f.length.toNat = 1 then some (.swap c n) else none
      | _ => none
    | _ => none

/-- The pair of a data request. -/
def DataFrame.pair (f : DataFrame) : Pair := (f.requester, f.tag)

end Sys2Proof
end

