-- ==== Sys2Proof/Machine/Flags.lean ====
section
/-! DEFINITION. Every line, flag and condition that the part computes from its state: the output lines of a port, lookup, the
dispatch condition, what a channel offers, the choice of a port's arbiter, the quiesce conditions, what the transmitter
takes. -/

namespace Sys2Proof.Machine

/-! ## Lines and conditions of a port (R65, R80) -/

/-- The hold grant line: asserted while HELD, following the hold request line while DISABLED (R80). -/
def Port.grant (p : Port) : Bool :=
  match p.state with
  | .held => true
  | .disabled => p.holdRequest
  | _ => false

/-- The segment reset line: asserted throughout RESETTING (R80). -/
def Port.resetLine (p : Port) : Bool := p.state == .resetting

/-- All four slots are LINGERING (R65). -/
def Port.stalled (p : Port) : Bool :=
  p.slot 0 == .lingering && p.slot 1 == .lingering && p.slot 2 == .lingering && p.slot 3 == .lingering

/-- Some slot is ISSUED or LINGERING (R96). -/
def Port.anyOccupied (p : Port) : Bool :=
  p.slot 0 != .free || p.slot 1 != .free || p.slot 2 != .free || p.slot 3 != .free

/-- The port is in a state in which the interval timer runs (R100). -/
def Port.intervalRuns (p : Port) : Bool :=
  match p.state with
  | .active => true
  | .settling _ => true
  | .held => true
  | .resetting => true
  | .disabled => false
  | .stopped => false

/-! ## Windows (R2, R7, R8, R10) -/

/-- A range of logical addresses: the first, and one past the last (R2). -/
abbrev AddrRange := Nat × Nat

/-- The range of a contents (R2). -/
def Contents.range (c : Contents) : AddrRange := (c.first, c.past)

/-- Two ranges share an address (R10). -/
def rangesMeet (a b : AddrRange) : Bool := a.1 < b.2 && b.1 < a.2

/-- A window is LIVE or DRAINING (R7). -/
def Window.inUse (w : Window) : Bool := w.state != .free

/-- The pending range of a DRAINING window whose pending record is a replacement (R2). -/
def Window.pendingRanges (w : Window) : List AddrRange :=
  match w.state, w.pending with
  | .draining, some ⟨.replacement c, _⟩ => [c.range]
  | _, _ => []

/-- The ranges a window reserves under the overlap law: its current range, and its pending range (R10). -/
def Window.reserved (w : Window) : List AddrRange :=
  if w.inUse then w.contents.range :: w.pendingRanges else []

/-- The overlap check of a new contents fails against some window other than the one to be skipped (R10). -/
def State.overlaps (s : State) (c : Contents) (skip : Option WindowIdx) : Bool :=
  (List.finRange 32).any fun i => skip != some i && (s.window i).reserved.any (rangesMeet c.range)

/-- The window is LIVE or DRAINING and its current range includes the address (R7). -/
def Window.containsAddr (w : Window) (a : Nat) : Bool := w.inUse && w.contents.first ≤ a && a < w.contents.past

/-- The index of the window that contains an address (R7). -/
def State.windowAt (s : State) (a : Nat) : Option WindowIdx :=
  (List.finRange 32).find? fun i => (s.window i).containsAddr a

/-- The right a request of this kind needs (R8). -/
def Contents.permits (c : Contents) : ReqKind → Bool
  | .read => c.mayRead
  | .write => c.mayWrite
  | .swap => c.maySwap

/-- The requester set holds the requester (R8). -/
def Contents.allows (c : Contents) (r : Requester) : Bool := c.requesters.getLsbD r.val

/-- The result of lookup for a request: the hit window, or the reason of the refusal (R7, R8). -/
def State.lookup (s : State) (r : Requester) (k : ReqKind) (a : Word) (len : Nat) : Except Reason WindowIdx :=
  match s.windowAt a.toNat with
  | none => .error .unmapped
  | some i =>
    let c := (s.window i).contents
    if c.past ≤ a.toNat + 4 * len - 1 then .error .spans
    else if !c.allows r then .error .denied
    else if !c.permits k then .error .denied
    else if (s.port c.port).state == .disabled then .error .portOff
    else .ok i

/-- The physical address of a logical address through a contents (R2, R44). -/
def Contents.translate (c : Contents) (a : Word) : PhysAddr := c.physicalBase + (a - c.logicalBase).setWidth 28

/-- The logical address behind a physical one, from the window's current contents (R69). -/
def Contents.untranslate (c : Contents) (a : PhysAddr) : Word := c.logicalBase + (a - c.physicalBase).setWidth 32

/-- A queue entry passes the re-check against a new contents, whose port is or is not DISABLED (R25). -/
def QueueEntry.passes (e : QueueEntry) (c : Contents) (portDisabled : Bool) : Bool :=
  c.first ≤ e.address.toNat && e.address.toNat + 4 * e.length - 1 < c.past
    && c.permits e.body.kind && c.allows e.requester && !portDisabled

/-! ## Dispatch (R41) -/

/-- The port state bars dispatch: HELD, SETTLING toward HELD, RESETTING (R41). -/
def PortState.barsDispatch : PortState → Bool
  | .held => true
  | .settling .held => true
  | .resetting => true
  | .settling .stopped => false
  | .disabled => false
  | .active => false
  | .stopped => false

/-- The four conditions of dispatch (R41). -/
def State.dispatchable (s : State) (e : QueueEntry) : Bool :=
  let w := s.window e.window
  w.state == .live && s.freeIndex?.isSome && !(s.port w.contents.port).state.barsDispatch
    && (!w.contents.strict || w.useCount == 0)

/-- The oldest dispatchable entry of the request queue (R42). -/
def State.oldestDispatchable (s : State) : Option QueueEntry := s.requestQueue.find? s.dispatchable

/-! ## Copy halves (R115, R116) -/

/-- The half a unit's phase names. -/
def UnitPhase.half : UnitPhase → Half
  | .readHalf => .read
  | .writeHalf _ => .write

/-- The port of a half: the source port in READ HALF, the destination port in WRITE HALF (R115). -/
def Descriptor.portOf (d : Descriptor) : Half → PortId
  | .read => d.srcPort
  | .write => d.dstPort

/-- The pacing allows a new unit to start (R116, R122, R123). -/
def State.paceAllows (s : State) (ch : Channel) (d : Descriptor) : Bool :=
  match d.pacing with
  | .continuous => true
  | .yielding => true
  | .paced line .level => (s.port line).pace
  | .paced _ .edge => ch.permit

/-- The half a channel offers: READ or WRITE, and the port it is offered to (R116). -/
def State.offer (s : State) (c : ChannelId) : Option (Half × PortId) :=
  let ch := s.channel c
  match ch.state, ch.current, ch.unit with
  | .running, some cur, none =>
    if s.engineEnable && s.paceAllows ch cur.desc then some (.read, cur.desc.srcPort) else none
  | .running, some cur, some u =>
    match u.phase, u.half with
    | .readHalf, .waiting => some (.read, cur.desc.srcPort)
    | .writeHalf _, .ready => some (.write, cur.desc.dstPort)
    | .writeHalf _, .waiting => some (.write, cur.desc.dstPort)
    | _, _ => none
  | _, _, _ => none

/-- The channel offers a half to port p (R83, R116). -/
def State.offersTo (s : State) (c : ChannelId) (p : PortId) : Bool :=
  match s.offer c with
  | some (_, q) => q == p
  | none => false

/-- The current descriptor of a channel is CONTINUOUS (R83). -/
def Channel.continuous (ch : Channel) : Bool :=
  match ch.current with
  | some cur => cur.desc.pacing == .continuous
  | none => false

/-- The first channel, C0 before C1, that offers port p a half of the given class (R83, R84). -/
def State.copyReady (s : State) (p : PortId) (continuous : Bool) : Option ChannelId :=
  [0, 1].find? fun c => s.offersTo c p && (s.channel c).continuous == continuous

/-! ## The arbiter of a port (R82 to R86) -/

/-- What the arbiter serves next. -/
inductive Candidate where
  | upkeep
  | hold
  | boot
  | copy (c : ChannelId)
  | upstream (e : TrackEntry)
  deriving DecidableEq, Repr

/-- The Upkeep Sequencer offers a candidate: a WAITING upkeep, or the pending one while none is in flight (R104). -/
def Upkeep.offers (u : Upkeep) : Bool :=
  match u.inFlight with
  | some a => a.state == .waiting
  | none => u.pending

/-- The Boot Reader offers a read: in BOOTING, until FINISHED, one at a time (R86, R183). -/
def State.bootOffers (s : State) : Bool :=
  s.mc.mode == .booting && s.boot.phase != .finished
    && match s.boot.inFlight with
       | some r => r.state == .waiting
       | none => true

/-- The WAITING tracking entry of a port with the oldest dispatch order (R54, R83). -/
def State.oldestWaiting (s : State) (p : PortId) : Option TrackEntry :=
  s.tracking.find? fun e => e.port == p && e.state == .waiting

/-- A SWAP read half waits (R85). -/
def TrackEntry.isSwapRead (e : TrackEntry) : Bool := e.phase == some .readHalf

/-- Candidates 3 and 4 of an ACTIVE port with a free slot and no lock: the order of R83 with the turn of R84, and what a
waiting SWAP does to it (R85). -/
def State.sharedChoice (s : State) (p : PortId) : Option Candidate :=
  let up := (s.oldestWaiting p).map Candidate.upstream
  if (s.oldestWaiting p).any TrackEntry.isSwapRead then
    if (s.port p).anyIssued then none else up
  else
    match s.copyReady p true with
    | some c => some (.copy c)
    | none =>
      let cp := (s.copyReady p false).map Candidate.copy
      match (s.port p).turn with
      | .copy => cp.or up
      | .upstream => up.or cp

/-- What the arbiter of port p serves next, if anything (R82 to R86). -/
def State.arbiterChoice (s : State) (p : PortId) : Option Candidate :=
  let q := s.port p
  let slotFree := !q.freeOrder.isEmpty
  if s.resetn || q.state != .active then none
  else
    match q.lock with
    | some i =>
      match s.entry? i with
      | some e => if e.state == .waiting && slotFree then some (.upstream e) else none
      | none => none
    | none =>
      if q.upkeep.offers && slotFree then some .upkeep
      else if q.holdRequest then some .hold
      else if !slotFree then none
      else if p == 0 && s.bootOffers then some .boot
      else s.sharedChoice p

/-! ## Modes (R137) -/

/-- The quiesce conditions (R137). -/
def ModeController.quiesceConditions (m : ModeController) : Bool := m.queueEmpty && m.trackingEmpty && !m.unitsInFlight

/-! ## The transmitter (R154, R178) -/

/-- What the transmitter takes next. -/
inductive TransmitChoice where
  | credit
  | notice
  | response
  deriving DecidableEq, Repr

/-- The Notice Unit offers a notice (R154, R155). -/
def State.noticeOffered (s : State) : Bool :=
  s.mc.mode != .booting && !s.nu.queue.isEmpty && (s.li.responses.isEmpty || s.nu.run == Config.responseRun)

/-- What the free transmitter of an UP link takes, if anything (R178). -/
def State.transmitChoice (s : State) : Option TransmitChoice :=
  if s.resetn || !s.li.up || s.li.transmission.isSome then none
  else if s.li.creditPending then some .credit
  else if s.noticeOffered then some .notice
  else if s.li.responses.isEmpty then none
  else some .response

end Sys2Proof.Machine
end

