-- ==== Sys2Proof/Machine/Copy.lean ====
section
/-! DEFINITION. The Copy Engine (chapter 6), but for its management commands: the issue and the end of a copy half, the end of a
descriptor, the pace lines. -/

namespace Sys2Proof.Machine

/-! ## Issue of a half (R117) -/

/-- The access command of a half: READ of 1 word at the source, or WRITE of the kept word at the destination (R117). -/
def CurrentCopy.command (cur : CurrentCopy) : UnitPhase → AccessCommand
  | .readHalf => .read cur.src 1
  | .writeHalf w => .write cur.dst [w]

/-- The turn after a copy half: UPSTREAM for a YIELDING or PACED half, unchanged for a CONTINUOUS half (R84). -/
def Port.turnAfterCopy (p : Port) (pacing : Pacing) : Port :=
  if pacing = .continuous then p else { p with turn := .upstream }

/-- The descriptor is PACED with EDGE sense (R117). -/
def Pacing.isEdge : Pacing → Bool
  | .paced _ .edge => true
  | _ => false

/-- The unit whose half is issued in slot k: a new one in READ HALF, or the unit in flight (R117). -/
def Channel.issuedUnit (ch : Channel) (k : SlotId) : CopyUnit :=
  match ch.unit with
  | none => { phase := .readHalf, half := .issued k, retries := 0 }
  | some u => { u with half := .issued k }

/-- The issue of the half that channel c offers, in slot k of port p: a new unit consumes the pace permit of an EDGE-paced
descriptor (R117). -/
def State.issueHalf (s : State) (c : ChannelId) (cur : CurrentCopy) (p : PortId) (k : SlotId) : State :=
  let ch := s.channel c
  let u := ch.issuedUnit k
  let permit := if ch.unit.isNone && cur.desc.pacing.isEdge then false else ch.permit
  ((s.setChannel c { ch with unit := some u, permit := permit }).updPort p fun q =>
    (q.issueIn k (.copy c u.phase.half) (cur.command u.phase)).turnAfterCopy cur.desc.pacing).reportUnits

/-! ## Descriptors and units -/

/-- The progress of a descriptor that becomes current (R114, R121). -/
def Descriptor.start (d : Descriptor) : CurrentCopy where
  desc := d
  remaining := d.count
  src := d.srcAddr
  dst := d.dstAddr

/-- The state of a channel with a descriptor by the engine enable: RUNNING if set, PAUSED if clear (R114, R121, R126). -/
def stateByEnable (enable : Bool) : ChannelState := if enable then .running else .paused

/-- An address moves by its step (R113, R119). -/
def Step.move (st : Step) (a : PhysAddr) : PhysAddr :=
  match st with
  | .up => a + 4
  | .down => a - 4
  | .hold => a

/-- The pace permit is kept at a promotion if both descriptors are PACED with EDGE sense on the same line (R121). -/
def permitKept (old new : Pacing) : Bool :=
  match old, new with
  | .paced a .edge, .paced b .edge => a == b
  | _, _ => false

/-- The channel after its current descriptor is done: the pending descriptor becomes current, or the channel is IDLE (R121). -/
def Channel.promote (ch : Channel) (done : Descriptor) (enable : Bool) : Channel :=
  match ch.pending with
  | some d =>
    { state := stateByEnable enable
      current := some d.start
      pending := none
      unit := none
      permit := ch.permit && permitKept done.pacing d.pacing
      lastFault := none }
  | none => .initial

/-- COPY_DONE is raised if the descriptor's notify is yes (R121). -/
def State.raiseDone (s : State) (c : ChannelId) (d : Descriptor) : State :=
  if d.notify then s.raise (.copyDone c d.count) else s

/-- The unit of a write half that completed OK ends: the count falls, and the next unit starts, the channel pauses, or the
descriptor is done (R119, R121). -/
def State.unitMoved (s : State) (c : ChannelId) (ch : Channel) (cur : CurrentCopy) : State :=
  if cur.remaining ≤ 1 then
    ((s.raiseDone c cur.desc).setChannel c (ch.promote cur.desc s.engineEnable)).reportUnits
  else
    let cur' : CurrentCopy :=
      { cur with
        remaining := cur.remaining - 1
        src := cur.desc.srcStep.move cur.src
        dst := cur.desc.dstStep.move cur.dst }
    (s.setChannel c
      { ch with state := stateByEnable s.engineEnable, current := some cur', unit := none }).reportUnits

/-- A half fails: the unit ends, the channel is FAULTED with its last fault, COPY_FAULT is raised (R124). -/
def State.failHalf (s : State) (c : ChannelId) (h : Half) (r : Reason) : State :=
  let ch := s.channel c
  let remaining := (ch.current.map CurrentCopy.remaining).getD 0
  ((s.setChannel c { ch with state := .faulted, unit := none, lastFault := some { half := h, reason := r } }).raise
    (.copyFault c h r remaining)).reportUnits

/-- The channel becomes IDLE by an abort, with its COPY_ABORTED notice (R128, R129). -/
def State.abortNow (s : State) (c : ChannelId) (remaining : Nat) : State :=
  ((s.setChannel c .initial).raise (.copyAborted c remaining)).reportUnits

/-- The remaining count of a channel; 0 without a current descriptor. -/
def Channel.remaining (ch : Channel) : Nat := (ch.current.map CurrentCopy.remaining).getD 0

/-- The ISSUED half of an ABORTING channel ends: an OK of a write half counts its unit (R129). -/
def State.abortingEnd (s : State) (c : ChannelId) (wroteOk : Bool) : State :=
  let n := (s.channel c).remaining
  s.abortNow c (if wroteOk then n - 1 else n)

/-! ## Completions of a half (R118 to R120, R129) -/

/-- A read half completed OK with its word: the write half is READY with its own retry count (R118). -/
def State.wordRead (s : State) (c : ChannelId) (w : Word) : State :=
  s.setChannel c { s.channel c with unit := some { phase := .writeHalf w, half := .ready, retries := 0 } }

/-- A RETRY for the ISSUED half of a channel that is not ABORTING: WAITING within the limit, failed BUSY when the retries are exhausted
(R120). R120 names retries used below and equal to the retry limit; above a limit that PORT CONFIGURE has lowered meanwhile they are
taken as exhausted: DESIGN CHOICE, unsafe, log 11. -/
def State.retryHalf (s : State) (c : ChannelId) (u : CopyUnit) (h : Half) (limit : Nat) : State :=
  if u.retries < limit then
    s.setChannel c { s.channel c with unit := some { u with half := .waiting, retries := u.retries + 1 } }
  else s.failHalf c h .busy

/-- A completion delivered to the copy half that holds slot k of port p (R118, R119, R120, R129). -/
def State.completeCopy (s : State) (p : PortId) (k : SlotId) (c : ChannelId) (h : Half) (st : CompletionStatus)
    (data : List Word) : State :=
  let freed := s.updPort p fun q => q.freeSlot k
  let counted := if st = .retry then freed.updPort p Port.countRetry else freed
  let ch := s.channel c
  match ch.state with
  | .aborting => counted.abortingEnd c (h == .write && st == .ok)
  | _ =>
    match ch.current, ch.unit with
    | some cur, some u =>
      match st, h, data with
      | .retry, _, _ => counted.retryHalf c u h (s.port p).config.retryLimit.toNat
      | .ok, .read, [w] => counted.wordRead c w
      | .ok, .write, _ => counted.unitMoved c ch cur
      | _, _, _ => counted.failHalf c h .segmentError
    | _, _ => counted

/-- The timeout of the copy half of channel c (R124, R129). -/
def State.timeoutCopy (s : State) (c : ChannelId) (h : Half) : State :=
  match (s.channel c).state with
  | .aborting => s.abortingEnd c false
  | _ => s.failHalf c h .timeout

/-! ## Port reset (R125) -/

/-- The half of channel c is on port p: ISSUED or WAITING there (R115). -/
def Channel.halfOn (ch : Channel) (p : PortId) : Option Half :=
  match ch.current, ch.unit with
  | some cur, some u =>
    match u.half with
    | .ready => none
    | _ => if cur.desc.portOf u.phase.half = p then some u.phase.half else none
  | _, _ => none

/-- An accepted PORT RESET of port p ends the half of channel c that is on it (R125, R129). -/
def State.portResetCopy (s : State) (p : PortId) (c : ChannelId) : State :=
  match (s.channel c).halfOn p with
  | some h => if (s.channel c).state = .aborting then s.abortingEnd c false else s.failHalf c h .portReset
  | none => s

/-! ## The ports a descriptor names (R96, R114) -/

/-- A descriptor names a port as source, destination or pace line (R96, R113). -/
def Descriptor.names (d : Descriptor) (p : PortId) : Bool :=
  d.srcPort == p || d.dstPort == p ||
    match d.pacing with
    | .paced line _ => line == p
    | .continuous => false
    | .yielding => false

/-- A current or pending descriptor of the channel names the port (R96). -/
def Channel.names (ch : Channel) (p : PortId) : Bool :=
  (ch.current.any fun cur => cur.desc.names p) || ch.pending.any fun d => d.names p

/-! ## The pace lines (R122, R123) -/

/-- An edge of a pace line at a channel whose current descriptor is PACED with EDGE sense on it: the permit is set (R123). -/
def Channel.edge (ch : Channel) (p : PortId) : Channel :=
  match ch.current with
  | some cur => if cur.desc.pacing = .paced p .edge then { ch with permit := true } else ch
  | none => ch

/-- The pace line of port p takes a level; from deasserted to asserted is an edge at every channel (R122, R123). -/
def State.setPace (s : State) (p : PortId) (level : Bool) : State :=
  let t := s.updPort p fun q => { q with pace := level }
  if level && !(s.port p).pace then t.mapChannels fun ch => ch.edge p else t

end Sys2Proof.Machine
end

