-- ==== Sys2Proof/Machine/Queue.lean ====
section
/-! DEFINITION. The request queue and the windows that its entries are bound to, as the events of other blocks change them (chapters 1
and 2): the re-check and removal of entries, the installs, and dispatch. -/

namespace Sys2Proof.Machine

/-! ## The re-check and removal of queue entries (R19, R24, R25) -/

/-- The REMAPPED answer to a queue entry, without the refusal mark (R25, R37). -/
def QueueEntry.remapped (e : QueueEntry) : Response := refusal e.requester e.tag .data .remapped false

/-- The queue entries for which the test fails are removed and answered REMAPPED, oldest first; the others keep their places
(R25, R39). -/
def State.remapUnless (s : State) (keep : QueueEntry → Bool) : State :=
  { s with
    requestQueue := s.requestQueue.filter keep
    li := { s.li with
      responses := s.li.responses ++ (s.requestQueue.filter fun e => !keep e).map QueueEntry.remapped } }.reportQueue

/-- The re-check of the entries bound to window i against its new contents (R25). -/
def State.recheck (s : State) (i : WindowIdx) (c : Contents) : State :=
  s.remapUnless fun e => e.window != i || e.passes c ((s.port c.port).state == .disabled)

/-- Every queue entry bound to window i is removed and answered REMAPPED (R19, R24). -/
def State.remapWindow (s : State) (i : WindowIdx) : State := s.remapUnless fun e => e.window != i

/-! ## Installs (R17, R19, R23, R24) -/

/-- A window in which a replacement is installed: LIVE with the new contents, hit count 0 (R17, R23). -/
def Window.install (w : Window) (c : Contents) : Window :=
  { w with state := .live, contents := c, hitCount := 0, pending := none }

/-- A window that becomes FREE by CLOSE keeps its contents and hit count (R19, R24). -/
def Window.close (w : Window) : Window := { w with state := .free, pending := none }

/-- A replacement is installed, with the re-check of the entries bound to the window (R17, R23). -/
def State.installNow (s : State) (i : WindowIdx) (c : Contents) : State :=
  (s.setWindow i ((s.window i).install c)).recheck i c

/-- A close is installed: the window is FREE, and every entry bound to it is answered REMAPPED (R19, R24). -/
def State.closeNow (s : State) (i : WindowIdx) : State := (s.setWindow i (s.window i).close).remapWindow i

/-- The deferred window operation when its window is DRAINING with use count 0, so that the install is due (R23, R24). -/
def State.installDue (s : State) : Option (DeferredOp × PendingChange) :=
  match s.deferred with
  | none => none
  | some d =>
    let w := s.window d.index
    if w.state = .draining ∧ w.useCount = 0 then w.pending.map fun r => (d, r.change) else none

/-- The deferred window operation ends and its timer is cancelled (R23, R24, R26). -/
def State.endDeferred (s : State) : State := { s with deferred := none }

/-- The deferred answer of a window operation is built (R23, R24, R26, R162). -/
def State.answerDeferredOp (s : State) (d : DeferredOp) (st : Status) : State :=
  s.answerMgmt (deferredResponse d.requester d.tag st)

/-- The install at the end of a drain: the timer is cancelled, the pending change is installed with its REMAPPED answers, and the
deferred OK is built, in this order (R23, R24). -/
def State.installFor (s : State) (d : DeferredOp) : PendingChange → State
  | .replacement c => (s.endDeferred.installNow d.index c).answerDeferredOp d .ok
  | .close => (s.endDeferred.closeNow d.index).answerDeferredOp d .ok

/-- The install follows in the event in which the use count of a DRAINING window reaches 0 (R11, R23, R24, R71). -/
def State.installPending (s : State) : State :=
  match s.installDue with
  | some (d, change) => s.installFor d change
  | none => s

/-! ## Dispatch (R42 to R45) -/

/-- The SWAP phase of a dispatched request: READ HALF for a SWAP, absent otherwise (R43). -/
def ReqBody.firstPhase : ReqBody → Option SwapPhase
  | .swap _ _ => some .readHalf
  | .read => none
  | .write _ => none

/-- The tracking entry of a dispatched queue entry, from the window's contents as they stand (R43, R44). -/
def QueueEntry.track (e : QueueEntry) (i : TrackIdx) (c : Contents) : TrackEntry where
  index := i
  requester := e.requester
  tag := e.tag
  body := e.body
  window := e.window
  port := c.port
  physAddr := c.translate e.address
  length := e.length
  posted := e.body.kind == .write && c.posted
  state := .waiting
  phase := e.body.firstPhase
  retries := 0

/-- The dispatch of a queue entry into tracking entry i (R43). -/
def State.dispatchEntry (s : State) (e : QueueEntry) (i : TrackIdx) : State :=
  let w := s.window e.window
  let t := e.track i w.contents
  let u : State := { s with requestQueue := s.requestQueue.erase e, tracking := s.tracking ++ [t] }
  let v := (u.setWindow e.window { w with useCount := w.useCount + 1 }).reportQueue.reportTracking
  if t.posted then v.respond (okResponse e.requester e.tag .data []) else v

/-- The oldest dispatchable entry, if there is one, moves into the free tracking entry with the lowest index (R42, R43). -/
def State.dispatchOne (s : State) : State :=
  match s.oldestDispatchable, s.freeIndex? with
  | some e, some i => s.dispatchEntry e i
  | _, _ => s

/-- Dispatch is considered: the oldest dispatchable entry is dispatched, again and again, until none remains. Each dispatch takes an
entry from the queue, so that there are at most as many as the queue is long (R42). -/
def State.dispatchAll (s : State) : State := Nat.iterate State.dispatchOne s.requestQueue.length s

end Sys2Proof.Machine
end

