-- ==== Sys2Proof/Machine/Tracking.lean ====
section
/-! DEFINITION. The Tracking Table (chapter 3): the issue of an entry, its end, and what a completion does to the entry that holds a
slot. -/

namespace Sys2Proof.Machine

/-! ## Issue (R54) -/

/-- The access command of an entry by its kind and phase (R54). -/
def TrackEntry.command (e : TrackEntry) : AccessCommand :=
  match e.body, e.phase with
  | .read, _ => .read e.physAddr e.length
  | .write d, _ => .write e.physAddr d
  | .swap _ n, some (.writeHalf _) => .write e.physAddr [n]
  | .swap _ _, _ => .read e.physAddr 1

/-- The SWAP lock as an issue leaves it: a SWAP takes it for its entry (R66, R85). -/
def Port.lockFor (p : Port) (e : TrackEntry) : Port :=
  match e.body with
  | .swap _ _ => { p with lock := some e.index }
  | .read => p
  | .write _ => p

/-- The issue of a WAITING tracking entry in slot k of port p: the entry is ISSUED, the access command is sent, the turn becomes COPY
(R54, R84). -/
def State.issueEntry (s : State) (p : PortId) (e : TrackEntry) (k : SlotId) : State :=
  (s.updEntry e.index fun x => { x with state := .issued k }).updPort p fun q =>
    { (q.issueIn k (.tracking e.index) e.command).lockFor e with turn := .copy }

/-! ## The end of an entry (R68 to R71) -/

/-- How an entry ends (R70). -/
inductive EntryEnd where
  | ok (data : List Word) (swapped : Option Bool)
  | fault (r : Reason)
  deriving DecidableEq, Repr

/-- The entry is a SWAP in its write half, so that a FAULT answer carries the PARTIAL mark (R68). -/
def TrackEntry.inWriteHalf (e : TrackEntry) : Bool :=
  match e.phase with
  | some (.writeHalf _) => true
  | _ => false

/-- The RESPONSE to an entry that ends (R70). -/
def TrackEntry.response (e : TrackEntry) : EntryEnd → Response
  | .ok data swapped => { okResponse e.requester e.tag .data data with swapped := swapped }
  | .fault r => { okResponse e.requester e.tag .data [] with status := .fault r, partialMark := e.inWriteHalf }

/-- The POSTED_FAULT notice of an entry, with its logical address from the window's current contents (R69). -/
def State.postedFault (s : State) (e : TrackEntry) (r : Reason) : Notice :=
  .postedFault e.window e.requester e.tag ((s.window e.window).contents.untranslate e.physAddr) r

/-- The answer to an entry that ends: a RESPONSE; for a posted WRITE a POSTED_FAULT notice on a fault and nothing on OK (R69,
R70). -/
def State.answerEntry (s : State) (e : TrackEntry) (x : EntryEnd) : State :=
  if e.posted then
    match x with
    | .ok _ _ => s
    | .fault r => s.raise (s.postedFault e r)
  else s.respond (e.response x)

/-- The slot an ISSUED entry holds is freed; a slot that lingers is not its any more (R61, R71). -/
def Port.releaseFrom (p : Port) (e : TrackEntry) : Port :=
  match e.state with
  | .issued k => if (p.slot k).isIssued then p.freeSlot k else p
  | .waiting => p

/-- Tracking entry i is freed (R71). -/
def State.dropEntry (s : State) (i : TrackIdx) : State := { s with tracking := s.tracking.filter fun e => e.index ≠ i }

/-- The use count of a window falls by 1 (R11). -/
def Window.release (w : Window) : Window := { w with useCount := w.useCount - 1 }

/-- The end of a tracking entry, in the order of R71: the answer; its slot and SWAP lock; the entry; the use count of its window, with
the install that this may allow and its answers; the report to the Mode Controller; dispatch (R11, R71). -/
def State.endEntry (s : State) (e : TrackEntry) (x : EntryEnd) : State :=
  let t := (s.answerEntry e x).updPort e.port fun q => (q.releaseFrom e).unlock e.index
  let u := t.dropEntry e.index
  (u.setWindow e.window (u.window e.window).release).installPending.reportTracking.dispatchAll

/-! ## Completions for an entry (R57 to R60, R66, R67) -/

/-- The compare of a SWAP succeeded in slot k of port p: the write half is issued in the same slot with a fresh timer, and the old
value is kept (R66). -/
def State.startWriteHalf (s : State) (p : PortId) (e : TrackEntry) (k : SlotId) (new old : Word) : State :=
  (s.updEntry e.index fun x => { x with phase := some (.writeHalf old) }).updPort p fun q =>
    q.sendIn k (.tracking e.index) (.write e.physAddr [new])

/-- A RETRY for an entry in slot k of port p: counted; within the limit it returns to WAITING with its slot freed, beyond it the
entry ends BUSY (R60). -/
def State.retryEntry (s : State) (p : PortId) (e : TrackEntry) (k : SlotId) : State :=
  let t := s.updPort p Port.countRetry
  if e.retries < (s.port p).config.retryLimit.toNat then
    (t.updEntry e.index fun x => { x with state := .waiting, retries := x.retries + 1 }).updPort p fun q => q.freeSlot k
  else t.endEntry e (.fault .busy)

/-- An OK for an entry, by its kind and phase; one that is not well-formed is taken as ERROR (R57, R58, R66, R67). -/
def State.okEntry (s : State) (p : PortId) (e : TrackEntry) (k : SlotId) (data : List Word) : State :=
  match e.body, e.phase with
  | .read, _ => if data.length = e.length then s.endEntry e (.ok data none) else s.endEntry e (.fault .segmentError)
  | .write _, _ => s.endEntry e (.ok [] none)
  | .swap _ _, some (.writeHalf old) => s.endEntry e (.ok [old] (some true))
  | .swap c n, _ =>
    match data with
    | [w] => if w = c then s.startWriteHalf p e k n w else s.endEntry e (.ok [w] (some false))
    | _ => s.endEntry e (.fault .segmentError)

/-- A completion delivered to the tracking entry that holds slot k of port p (R57 to R60). -/
def State.completeEntry (s : State) (p : PortId) (e : TrackEntry) (k : SlotId) (st : CompletionStatus) (data : List Word) :
    State :=
  match st with
  | .ok => s.okEntry p e k data
  | .error => s.endEntry e (.fault .segmentError)
  | .retry => s.retryEntry p e k

end Sys2Proof.Machine
end

