-- ==== Sys2Proof/Machine/Upkeep.lean ====
section
/-! DEFINITION. The Upkeep Sequencers (chapter 5): issues, expiries, what a completion or a timeout does to the upkeep in flight, and
what a configuration change does. -/

namespace Sys2Proof.Machine

/-! ## Rows (R108) -/

/-- The row after a row, wrapping to 0 at the row limit (R108). -/
def nextRow (row : Row) (limit : BitVec 11) : Row := if row.toNat + 1 < limit.toNat then row + 1 else 0

/-! ## Issue (R104) -/

/-- The upkeep access that the arbiter issues: the WAITING one again, or a new one naming the row counter, which advances
(R104). -/
def Upkeep.issue (u : Upkeep) (limit : BitVec 11) : Upkeep × Row :=
  match u.inFlight with
  | some a => ({ u with inFlight := some { a with state := .issued } }, a.row)
  | none =>
    ({ u with
        pending := false
        inFlight := some { row := u.rowCounter, retries := 0, state := .issued }
        rowCounter := nextRow u.rowCounter limit },
      u.rowCounter)

/-- The port issues an UPKEEP access in slot k; the turn is unchanged (R84, R104). -/
def Port.issueUpkeep (p : Port) (k : SlotId) : Port :=
  let r := p.upkeep.issue p.config.rowLimit
  { p.issueIn k .upkeep (.upkeep r.2) with upkeep := r.1 }

/-! ## Expiries (R101) -/

/-- An expiry by the port state: suppressed while HELD; otherwise it sets the pending upkeep or finds one and counts missed
(R101). -/
def Port.upkeepExpiry (p : Port) : Port :=
  match p.state with
  | .held => { p with upkeep := { p.upkeep with suppressed := p.upkeep.suppressed + 1 } }
  | _ =>
    if p.upkeep.pending then { p with upkeep := { p.upkeep with missed := p.upkeep.missed + 1 } }
    else { p with upkeep := { p.upkeep with pending := true } }

/-- The interval timer restarts at once for the next interval, carrying the remainder r (R100). -/
def Port.nextInterval (p : Port) (r : Nat) : Port :=
  { p with upkeep := { p.upkeep with timer := some (.next p.config.interval r) } }

/-! ## The end of an upkeep access (R105 to R107) -/

/-- The upkeep in flight ends as failed: counted, its row recorded (R107). -/
def Upkeep.fail (u : Upkeep) (row : Row) : Upkeep :=
  { u with failed := u.failed + 1, lastFailedRow := some row, inFlight := none }

/-- A failure of the upkeep in flight of port p with its notice (R107). -/
def State.failUpkeep (s : State) (p : PortId) (row : Row) : State :=
  (s.updPort p fun q => { q with upkeep := q.upkeep.fail row }).raise (.upkeepFailed p row)

/-- A completion delivered to the Upkeep Sequencer for slot k (R105, R106). R106 names retries used below and equal to the retry limit;
above a limit that PORT CONFIGURE has lowered meanwhile the retries are taken as exhausted: DESIGN CHOICE, unsafe, log 11. -/
def State.completeUpkeep (s : State) (p : PortId) (k : SlotId) (st : CompletionStatus) : State :=
  let freed := s.updPort p fun q => q.freeSlot k
  match (s.port p).upkeep.inFlight with
  | none => freed
  | some a =>
    match st with
    | .ok => freed.updPort p fun q => { q with upkeep := { q.upkeep with inFlight := none, done := q.upkeep.done + 1 } }
    | .error => freed.failUpkeep p a.row
    | .retry =>
      let counted := freed.updPort p Port.countRetry
      if a.retries < (s.port p).config.retryLimit.toNat then
        counted.updPort p fun q =>
          { q with upkeep := { q.upkeep with inFlight := some { a with retries := a.retries + 1, state := .waiting } } }
      else counted.failUpkeep p a.row

/-- The timeout of the upkeep in flight of port p, whose slot lingers (R105). -/
def State.timeoutUpkeep (s : State) (p : PortId) : State :=
  match (s.port p).upkeep.inFlight with
  | some a => s.failUpkeep p a.row
  | none => s

/-- What an accepted PORT RESET does to the Upkeep Sequencer: a pending upkeep is cleared as missed; the upkeep in flight is
counted failed, its row recorded, with no notice (R103). -/
def Upkeep.portReset (u : Upkeep) : Upkeep :=
  let v := u.clearMissed
  match v.inFlight with
  | some a => v.fail a.row
  | none => v

/-! ## Configuration (R108, R109) -/

/-- A configuration is stored, and the Upkeep Sequencer acts on the interval and the row limit in the same event (R94, R108,
R109). -/
def Port.configure (p : Port) (c : PortConfig) : Port :=
  let rows : Row := if c.rowLimit = p.config.rowLimit then p.upkeep.rowCounter else 0
  let timer :=
    if c.interval = p.config.interval then p.upkeep.timer
    else if p.intervalRuns then freshInterval c.interval
    else none
  { p with config := c, upkeep := { p.upkeep with rowCounter := rows, timer := timer } }

end Sys2Proof.Machine
end

