-- ==== Sys2Proof/Machine/Arbiter.lean ====
section
/-! DEFINITION. What the arbiter of a port serves (R82 to R87), the reads of the Boot Reader that it issues (R183), and the end of a
settle (R88, R91). -/

namespace Sys2Proof.Machine

/-! ## The reads of the Boot Reader (R86, R183) -/

/-- Word k of the staging area, counted from 0. -/
def BootReader.word (b : BootReader) (k : Nat) : Word := b.staging.getD k 0

/-- The window count n, word 2 of the image. -/
def BootReader.windowCount (b : BootReader) : Nat := (b.word 1).toNat

/-- The length of the image in words, 13 + 4n (R183). -/
def BootReader.imageWords (b : BootReader) : Nat := 13 + 4 * b.windowCount

/-- The word count of the next read: 4 in HEADER; in BODY 16, or the rest (R183). -/
def BootReader.nextCount (b : BootReader) : Nat :=
  match b.phase with
  | .header => 4
  | _ => min 16 (b.imageWords - b.staging.length)

/-- The read that is issued next: the WAITING one again, or a new one (R183, R184). -/
def BootReader.nextRead (b : BootReader) : BootRead :=
  match b.inFlight with
  | some r => { r with state := .issued }
  | none => { address := b.nextAddr, count := b.nextCount, retries := 0, state := .issued }

/-- A read of the Boot Reader is issued in slot k of P0; the turn is unchanged (R84, R86, R183). -/
def State.issueBootRead (s : State) (k : SlotId) : State :=
  let r := s.boot.nextRead
  { s.updPort 0 fun q => q.issueIn k .boot (.read r.address r.count) with boot := { s.boot with inFlight := some r } }

/-! ## What the arbiter serves (R82, R83) -/

/-- The hold request is taken: the port settles toward HELD (R83, R87). -/
def Port.takeHold (p : Port) : Port := { p with state := .settling .held }

/-- The arbiter of port p serves the candidate it has chosen, an access in the slot at the head of the free-slot order (R78, R82,
R83). -/
def State.serve (s : State) (p : PortId) : State :=
  match s.arbiterChoice p, (s.port p).freeOrder with
  | some .hold, _ => s.updPort p Port.takeHold
  | some .upkeep, k :: _ => s.updPort p fun q => q.issueUpkeep k
  | some .boot, k :: _ => s.issueBootRead k
  | some (.copy c), k :: _ =>
    match (s.channel c).current with
    | some cur => s.issueHalf c cur p k
    | none => s
  | some (.upstream e), k :: _ => s.issueEntry p e k
  | _, _ => s

/-! ## The end of a settle (R88, R91) -/

/-- A port settling toward HELD becomes HELD: a pending upkeep is discarded as suppressed, the hold limit timer starts (R88,
R102). -/
def Port.becomeHeld (p : Port) : Port := { p with upkeep := p.upkeep.clearSuppressed }.enterHeld

/-- A SETTLING port reaches its settle target in the first event in which none of its slots is ISSUED (R88, R91). -/
def Port.settle (p : Port) : Port :=
  match p.state with
  | .settling .held => if p.anyIssued then p else p.becomeHeld
  | .settling .stopped => if p.anyIssued then p else p.enterStopped
  | _ => p

/-- The arbiter of port p is considered: it serves, again and again, until nothing is eligible or the port has left ACTIVE. Each
access takes a slot from the free-slot order, and the hold request ends the serving, so that it serves at most once more than the
order is long. A port that settles, by this or before it, then reaches its target if no slot is ISSUED (R82, R88, R91). -/
def State.arbitrate (s : State) (p : PortId) : State :=
  (Nat.iterate (fun t => t.serve p) ((s.port p).freeOrder.length + 1) s).updPort p Port.settle

end Sys2Proof.Machine
end

