-- ==== Sys2Proof/Machine/Event.lean ====
section
/-! DEFINITION. What follows in the same event from what an event has changed: dispatch (R42), the test of the quiesce conditions
(R137), the arbiters of the ports and the ends of settles (R82, R88, R91). -/

namespace Sys2Proof.Machine

/-- Stop-on-quiet takes a value (R138). -/
def State.setStopOnQuiet (s : State) (b : Bool) : State := { s with mc := { s.mc with stopOnQuiet := b } }

/-- The quiesce conditions hold in QUIESCING: the mode becomes QUIET, and with stop-on-quiet set STOP in the same event (R137,
R138). -/
def State.reachQuiet (s : State) : State :=
  let q := s.changeMode .quiet .quietReached
  if s.mc.stopOnQuiet then (q.setStopOnQuiet false).enterStop .quietReached else q

/-- The mode is QUIESCING and the quiesce conditions hold (R137). -/
def ModeController.quietDue (m : ModeController) : Bool := m.mode == .quiescing && m.quiesceConditions

/-- The quiesce conditions are tested (R136, R137). -/
def State.testQuiet (s : State) : State := if s.mc.quietDue then s.reachQuiet else s

/-- What follows in the same event: dispatch is considered (R42), the quiesce conditions are tested (R137), and the arbiters of P0 to P3
are considered with the ends of settles (R82, R88, R91). The spec gives no order among these: DESIGN CHOICE, unsafe, log 2. -/
def State.followUp (s : State) : State :=
  ((((s.dispatchAll.testQuiet).arbitrate 0).arbitrate 1).arbitrate 2).arbitrate 3

end Sys2Proof.Machine
end

