-- ==== Sys2Proof/Machine/Admission.lean ====
section
/-! DEFINITION. Admission (chapter 2): DATA_REQUEST; and the row DISPATCH. -/

namespace Sys2Proof.Machine

/-- A refusal at admission: one RESPONSE with the refusal mark (R37). -/
def State.refuseData (s : State) (f : DataFrame) (reason : Reason) : State :=
  s.respond (refusal f.requester f.tag .data reason true)

/-- The queue entry of a request bound to window i (R36, R38). -/
def queueEntryOf (f : DataFrame) (body : ReqBody) (i : WindowIdx) : QueueEntry where
  requester := f.requester
  tag := f.tag
  body := body
  window := i
  address := f.address
  length := f.length.toNat

/-- The hit count of a window is incremented, wrapping (R13). -/
def Window.hit (w : Window) : Window := { w with hitCount := w.hitCount + 1 }

/-- The queue entry is appended, and the Admission Unit reports (R36, R48). -/
def State.enqueue (s : State) (e : QueueEntry) : State := { s with requestQueue := s.requestQueue ++ [e] }.reportQueue

/-- Binding: the pair enters the tag set, the hit count is incremented, the queue entry is appended (R36). -/
def State.bind (s : State) (f : DataFrame) (body : ReqBody) (i : WindowIdx) : State :=
  ((s.enterTag f.pair).setWindow i (s.window i).hit).enqueue (queueEntryOf f body i)

/-- The tag, format and lookup checks, in this order: the reason of the first that fails, or the request's kind with its payload and the
hit window (R31, R34, R35, R36). -/
def State.admission (s : State) (f : DataFrame) : Except Reason (ReqBody × WindowIdx) :=
  if s.tags.contains f.pair then .error .tagInUse
  else
    match f.body? with
    | none => .error .format
    | some body =>
      match s.lookup f.requester body.kind f.address f.length.toNat with
      | .error r => .error r
      | .ok i => .ok (body, i)

/-- A request that passes the checks is bound; one that does not is refused (R31, R36, R37). -/
def State.bindOrRefuse (s : State) (f : DataFrame) : State :=
  match s.admission f with
  | .error r => s.refuseData f r
  | .ok (body, i) => s.bind f body i

/-- A request that is bound changes the request queue, so that dispatch is considered in the binding event (R36, R42); a refusal
changes nothing that anything follows from (R37). -/
def State.admitInRun (s : State) (f : DataFrame) : State :=
  match s.admission f with
  | .error _ => s.bindOrRefuse f
  | .ok _ => (s.bindOrRefuse f).followUp

/-- Admission of a delivered data request: the mode check first, with the wake of a STOPPED part, whose ports act on it in this event
(R31, R32, R141). -/
def State.admitRequest (s : State) (f : DataFrame) : State :=
  match s.mc.mode with
  | .run => s.admitInRun f
  | .stop => if s.mc.wakeOnRequest then ((s.leaveStop .wake).bindOrRefuse f).followUp else s.refuseData f .mode
  | .booting => s.refuseData f .mode
  | .quiescing => s.refuseData f .mode
  | .quiet => s.refuseData f .mode

/-- DATA_REQUEST: received, charged, and admitted or refused (R30, R31, R174, R175). -/
def execDataRequest (f : DataFrame) (s : State) : Host.Outcome State Fault Refusal :=
  .next (s.receiveRequest .data f.malformed fun t => t.admitRequest f)

/-- DISPATCH: when an entry is dispatchable, the oldest is dispatched, and the queue is considered again within the same event (R42,
R43). -/
def execDispatch (s : State) : Host.Outcome State Fault Refusal :=
  .next (match s.oldestDispatchable, s.freeIndex? with
    | some e, some i => (s.dispatchEntry e i).followUp
    | _, _ => s)

end Sys2Proof.Machine
end

