-- ==== Sys2Proof/Machine/Images.lean ====
section
/-! DEFINITION. The codes and the record images of the formats chapter (12.2 to 12.4): the words a command is answered with and
the detail words of a notice. A field the record does not carry is zero (R191). -/

namespace Sys2Proof.Machine

/-- A field placed with its lowest bit at bit lo. -/
def place {n : Nat} (x : BitVec n) (lo : Nat) : Word := x.setWidth 32 <<< lo

/-- One bit at bit k. -/
def flag (b : Bool) (k : Nat) : Word := if b then (1 : Word) <<< k else 0

/-- A number as a word. -/
def num (n : Nat) : Word := BitVec.ofNat 32 n

/-- A port number placed at bit lo. -/
def portNum (p : PortId) (lo : Nat) : Word := num p.val <<< lo

/-! ## Codes (12.2) -/

/-- Reason codes. -/
def Reason.code : Reason → Nat
  | .mode => 0x01
  | .tagInUse => 0x02
  | .format => 0x03
  | .unmapped => 0x04
  | .spans => 0x05
  | .denied => 0x06
  | .portOff => 0x07
  | .remapped => 0x08
  | .busy => 0x09
  | .badIndex => 0x0A
  | .range => 0x0B
  | .overlap => 0x0C
  | .notLive => 0x0D
  | .notFree => 0x0E
  | .state => 0x0F
  | .unknown => 0x10
  | .segmentError => 0x11
  | .timeout => 0x12
  | .portReset => 0x13
  | .drainExpired => 0x14

/-- Mode codes. -/
def Mode.code : Mode → Nat
  | .booting => 0
  | .run => 1
  | .quiescing => 2
  | .quiet => 3
  | .stop => 4

/-- The code of an optional mode; FH is NONE. -/
def modeOrNone : Option Mode → Nat
  | some m => m.code
  | none => 0xF

/-- Boot result codes. -/
def BootResult.code : BootResult → Nat
  | .notRun => 0
  | .absent => 1
  | .rejectedFormat => 2
  | .rejectedCheck => 3
  | .rejectedAccess => 4
  | .loaded => 5

/-- Cause codes of MODE_CHANGED. -/
def ModeCause.code : ModeCause → Nat
  | .bootEnd => 1
  | .quiesce => 2
  | .supervision => 3
  | .quietReached => 4
  | .stop => 5
  | .resume => 6
  | .wake => 7
  | .linkReset => 8

/-- Half codes: 0 READ HALF, 1 WRITE HALF. -/
def Half.code : Half → Nat
  | .read => 0
  | .write => 1

/-- Pool codes. -/
def Pool.code : Pool → Nat
  | .data => 0
  | .management => 1

/-- Reset cause codes; an absent cause is 0. -/
def causeCode : Option ResetCause → Nat
  | none => 0
  | some .powerOn => 1
  | some .pin => 2
  | some .link => 3

/-- Request kind codes. -/
def ReqKind.code : ReqKind → Nat
  | .read => 1
  | .write => 2
  | .swap => 3

/-! ## Window image (R28) -/

/-- Words 0 to 2 of a window record with the given index. -/
def Contents.words (c : Contents) (i : WindowIdx) : List Word :=
  [c.logicalBase ||| num i.val,
   place (c.physicalBase.extractLsb' 12 16) 16 ||| num (c.size - 1),
   place c.requesters 0 ||| flag c.mayRead 8 ||| flag c.mayWrite 9 ||| flag c.maySwap 10 ||| portNum c.port 12
     ||| flag c.posted 16 ||| flag c.strict 17]

/-- Window state codes. -/
def WindowState.code : WindowState → Nat
  | .free => 0
  | .live => 1
  | .draining => 2

/-- Pending kind codes. -/
def pendingKindCode : Option PendingRecord → Nat
  | none => 0
  | some ⟨.replacement _, _⟩ => 1
  | some ⟨.close, _⟩ => 2

/-- The image WINDOW READ returns (R28, 12.4). -/
def Window.image (w : Window) (i : WindowIdx) : List Word :=
  w.contents.words i ++
    [num w.state.code ||| num (pendingKindCode w.pending) <<< 2
       ||| (match w.pending with
            | some r => place r.drainLimit 8
            | none => 0)
       ||| num w.useCount <<< 16,
     w.hitCount]

/-! ## Port images (R97, R165) -/

/-- Port state codes. -/
def PortState.code : PortState → Nat
  | .disabled => 0
  | .active => 1
  | .settling _ => 2
  | .held => 3
  | .stopped => 4
  | .resetting => 5

/-- The settle target bit: 0 HELD, 1 STOPPED; 0 outside SETTLING. -/
def PortState.targetCode : PortState → Nat
  | .settling .stopped => 1
  | _ => 0

/-- The two words of a port record, enable field zero (12.5). -/
def PortConfig.words (c : PortConfig) : List Word :=
  [place c.accessTimeout 4 ||| place c.retryLimit 8 ||| place c.resetPulse 16 ||| place c.holdLimit 24,
   place c.interval 0 ||| place c.rowLimit 16]

/-- The byte of one slot in word 3 of a port status image. -/
def Slot.imageByte : Slot → Nat
  | .free => 0
  | .lingering => 2
  | .issued (.tracking i) _ _ => 1 + i.val * 16
  | .issued .upkeep _ _ => 1 + 1 * 4
  | .issued (.copy c h) _ _ => 1 + 2 * 4 + c.val * 16 + h.code * 32
  | .issued .boot _ _ => 1 + 3 * 4

/-- The five port counters in the order of R98. -/
def PortCounters.words (c : PortCounters) : List Word := [c.issued, c.timeouts, c.late, c.retries, c.stray]

/-- The image PORT STATUS returns (R97, 12.4). The line levels stand in bits 7 to 4 in the order 12.4 lists them: DEDUCED,
unsafe, log 16. -/
def Port.statusImage (p : Port) : List Word :=
  [num p.state.code ||| num p.state.targetCode <<< 3
     ||| flag p.holdRequest 7 ||| flag p.grant 6 ||| flag p.pace 5 ||| flag p.resetLine 4
     ||| flag p.stallReport 8 ||| flag (p.turn == .copy) 9 ||| flag p.lock.isSome 15
     ||| (match p.lock with
          | some i => num i.val <<< 16
          | none => 0)]
  ++ p.config.words
  ++ [num (p.slot 0).imageByte ||| num (p.slot 1).imageByte <<< 8 ||| num (p.slot 2).imageByte <<< 16
        ||| num (p.slot 3).imageByte <<< 24]
  ++ p.counters.words

/-- The state bit of an upkeep access: 0 ISSUED, 1 WAITING. -/
def AccessState.code : AccessState → Nat
  | .issued => 0
  | .waiting => 1

/-- Word 10 of a port counter block. -/
def upkeepAccessWord : Option UpkeepAccess → Word
  | none => 0
  | some a => flag true 31 ||| place a.row 0 ||| num a.retries <<< 16 ||| num a.state.code <<< 20

/-- The last failed row with its NONE mark. -/
def lastRowWord : Option Row → Word
  | none => flag true 15
  | some r => place r 0

/-- The counter block of a port (R165, 12.4). -/
def Port.counterBlock (p : Port) : List Word :=
  p.counters.words
  ++ [p.upkeep.done, p.upkeep.missed, p.upkeep.suppressed, p.upkeep.failed,
      lastRowWord p.upkeep.lastFailedRow ||| place p.upkeep.rowCounter 16 ||| flag p.upkeep.pending 31,
      upkeepAccessWord p.upkeep.inFlight]

/-- The counter block of the link (R165, 12.4). -/
def LinkInterface.counterBlock (l : LinkInterface) : List Word := [l.checkErrors, l.overruns, l.malformed]

/-! ## Channel image (R132) -/

/-- Channel state codes. -/
def ChannelState.code : ChannelState → Nat
  | .idle => 0
  | .running => 1
  | .paused => 2
  | .faulted => 3
  | .aborting => 4

/-- Step codes. -/
def Step.code : Step → Nat
  | .up => 0
  | .down => 1
  | .hold => 2

/-- The pacing fields of descriptor word 2. -/
def Pacing.bits : Pacing → Word
  | .continuous => 0
  | .yielding => num 1 <<< 16
  | .paced line sense => num 2 <<< 16 ||| portNum line 18 ||| flag (sense == .edge) 20

/-- The three words of a descriptor (12.4). -/
def Descriptor.words (d : Descriptor) : List Word :=
  [place d.srcAddr 0 ||| portNum d.srcPort 28 ||| num d.srcStep.code <<< 30,
   place d.dstAddr 0 ||| portNum d.dstPort 28 ||| num d.dstStep.code <<< 30,
   num (d.count - 1) ||| d.pacing.bits ||| flag d.notify 24]

/-- The words of an optional descriptor; zero when absent. -/
def descriptorImage : Option Descriptor → List Word
  | some d => d.words
  | none => [0, 0, 0]

/-- The level of the pace line named by the current descriptor, when it is PACED (R132). -/
def State.paceLevel (s : State) (ch : Channel) : Bool :=
  match ch.current with
  | some cur =>
    match cur.desc.pacing with
    | .paced line _ => (s.port line).pace
    | _ => false
  | none => false

/-- The unit fields of word 0 of a channel image. -/
def unitBits (ch : Channel) : Word :=
  match ch.current, ch.unit with
  | some cur, some u =>
    num (u.phase.half.code + 1) <<< 10
      ||| (match u.half with
           | .ready => 0
           | .issued k => num 1 <<< 12 ||| num k.val <<< 18
           | .waiting => num 2 <<< 12)
      ||| portNum (cur.desc.portOf u.phase.half) 16 ||| num u.retries <<< 20
  | _, _ => 0

/-- The fault fields of word 0 of a channel image. -/
def faultBits : Option CopyFault → Word
  | some f => num f.half.code <<< 24 ||| num f.reason.code <<< 25
  | none => 0

/-- The image CHANNEL STATUS returns (R132, 12.4). -/
def State.channelImage (s : State) (c : ChannelId) : List Word :=
  let ch := s.channel c
  [num ch.state.code ||| flag s.engineEnable 4 ||| flag ch.current.isSome 5 ||| flag ch.pending.isSome 6
     ||| flag ch.permit 7 ||| flag (s.paceLevel ch) 8 ||| unitBits ch ||| faultBits ch.lastFault]
  ++ descriptorImage (ch.current.map CurrentCopy.desc)
  ++ descriptorImage ch.pending
  ++ (match ch.current with
      | some cur => [num cur.remaining, place cur.src 0, place cur.dst 0]
      | none => [0, 0, 0])
  ++ [0, 0]

/-! ## Tracking image (R167) -/

/-- µs left on the issue timer of a slot. -/
def Slot.timeLeft : Slot → Nat
  | .issued _ _ t => t
  | _ => 0

/-- The image of an entry in use with the given dispatch rank (R167, 12.4). -/
def State.trackImage (s : State) (e : TrackEntry) (rank : Nat) : List Word :=
  [flag true 31 ||| num e.requester.val <<< 24 ||| num e.tag.val <<< 16 ||| num e.body.kind.code <<< 12
     ||| num e.window.val <<< 7 ||| portNum e.port 5 ||| flag e.posted 4
     ||| (match e.state with
          | .issued k => flag true 3 ||| num k.val
          | .waiting => 0)
     ||| (match e.phase with
          | some (.writeHalf _) => flag true 2
          | _ => 0),
   place e.physAddr 0,
   num e.length ||| num e.retries <<< 8 ||| num rank <<< 16,
   match e.state with
   | .issued k => num ((s.port e.port).slot k).timeLeft
   | .waiting => 0]

/-- The dispatch rank of entry i: the number of entries in use dispatched before it (R167). -/
def State.rankOf (s : State) (i : TrackIdx) : Nat := (s.tracking.takeWhile fun e => e.index != i).length

/-! ## Mode image (R147) and cause record (R189) -/

/-- Supervision timer codes. -/
def SupervisionTimer.code : SupervisionTimer → Nat
  | .off => 0
  | .running _ => 1
  | .expired => 2

/-- The time to expiry in ms, rounded down; 0 unless RUNNING. -/
def SupervisionTimer.millis : SupervisionTimer → Nat
  | .running t => t / Config.microsPerMilli
  | _ => 0

/-- The image MODE STATUS returns (R147, 12.4). -/
def State.modeImage (s : State) : List Word :=
  [num s.mc.mode.code ||| flag s.mc.stopOnQuiet 4 ||| num s.mc.timer.code <<< 5 ||| flag s.mc.wakeOnRequest 7
     ||| flag s.mc.queueEmpty 8 ||| flag s.mc.trackingEmpty 9 ||| flag s.mc.unitsInFlight 10 ||| flag s.engineEnable 11,
   place s.mc.period 0,
   num s.mc.timer.millis]

/-- The answer to CAUSE READ (R189, 12.4). -/
def CauseRecord.words (r : CauseRecord) : List Word :=
  [num (causeCode (some r.last)) ||| num (causeCode r.previous) <<< 2 ||| num (modeOrNone r.modeAtReset) <<< 8
     ||| num r.resetCount <<< 16,
   num r.bootResult.code]

/-! ## Detail words and subjects of notices (12.2) -/

/-- The subject byte of a NOTICE frame. -/
def Subject.code : Subject → Nat
  | .link => 0
  | .window w => w.val
  | .port p => p.val
  | .channel c => c.val
  | .mode m => m.code

/-- The detail words of a notice. -/
def Notice.detailWords : Notice → List Word
  | .bootResult r => [num r.code]
  | .postedFault _ req tag a r => [num tag.val ||| num req.val <<< 8 ||| num r.code <<< 16, a]
  | .lateCompletion _ k => [num k.val]
  | .strayCompletion _ k => [num k.val]
  | .portStalled _ => []
  | .holdOverlong _ => []
  | .upkeepFailed _ row => [place row 0]
  | .copyDone _ n => [num n]
  | .copyFault _ h r n => [num h.code ||| num r.code <<< 8, num n]
  | .copyAborted _ n => [num n]
  | .supervisionExpired => []
  | .modeChanged _ prev cause => [num prev.code ||| num cause.code <<< 8]
  | .creditOverrun p => [num p.code]
  | .linkRestored => []

end Sys2Proof.Machine
end

