-- ==== Sys2Proof/Machine/Intake.lean ====
section
/-! DEFINITION. The path common to all management commands (chapter 9): the intake checks, placing and taking, and the answer of
the owning block (R159, R160, R161, R163). -/

namespace Sys2Proof.Machine

/-- What the owning block answers in the event in which a command is taken (R160, R161): OK with its data; OK without data, for an
effect that gives dispatch, the quiesce test or an arbiter something to do in the same event; a refusal; or nothing yet because the
answer is deferred. -/
inductive Answer where
  | ok (data : List Word)
  | done
  | refused (r : Reason)
  | deferred
  deriving DecidableEq, Repr

/-- The requester is in the managers set (R159). -/
def State.isManager (s : State) (r : Requester) : Bool := s.managers.getLsbD r.val

/-- The reason of the first intake check that fails, for a command of section 9.5 that requires the given number of operand
words (R159). -/
def State.intakeRefusal (s : State) (f : MgmtFrame) (words : Nat) : Option Reason :=
  if !s.isManager f.requester then some .denied
  else if s.tags.contains f.pair then some .tagInUse
  else if f.malformed || f.operands.length != words then some .format
  else none

/-- The reason of the first intake check that fails, for a command code that names no command: the format check passes whatever
its operand count (R159). -/
def State.unknownRefusal (s : State) (f : MgmtFrame) : Reason :=
  if !s.isManager f.requester then .denied
  else if s.tags.contains f.pair then .tagInUse
  else if f.malformed then .format
  else .unknown

/-- A refusal at intake: one RESPONSE with the refusal mark; the pair does not enter the tag set (R159, R163). -/
def State.refuseMgmt (s : State) (f : MgmtFrame) (r : Reason) : State :=
  s.respond (refusal f.requester f.tag .management r true)

/-- The management queue entry of a command that is placed (R160). -/
def entryOf (f : MgmtFrame) (c : Command) : MgmtEntry where
  requester := f.requester
  tag := f.tag
  command := c
  phase := .deferred

/-- A command is placed: its entry is appended, then its pair enters the tag set (R160). -/
def State.placeCommand (s : State) (f : MgmtFrame) (c : Command) : State :=
  { s with mgmtQueue := s.mgmtQueue ++ [entryOf f c] }.enterTag f.pair

/-- The RESPONSE to a command answered when taken, and what follows from the command's effect in the same event, so that the effect is
complete before the next command (R160, R163). -/
def State.answerCommand (s : State) (f : MgmtFrame) : Answer → State
  | .ok data => s.answerMgmt (okResponse f.requester f.tag .management data)
  | .done => (s.answerMgmt (okResponse f.requester f.tag .management [])).followUp
  | .refused r => s.answerMgmt (refusal f.requester f.tag .management r false)
  | .deferred => s

/-- What an owning block does with a command that is handed to it, and what it answers (R160). -/
abbrev Act := MgmtFrame → State → State × Answer

/-- A command whose checks have passed is placed and taken (R160). -/
def State.takeCommand (s : State) (c : Command) (f : MgmtFrame) (act : Act) : State :=
  let r := act f (s.placeCommand f c)
  r.1.answerCommand f r.2

/-- Intake of a delivered command of section 9.5 (R159, R160). -/
def State.intake (s : State) (c : Command) (words : Nat) (f : MgmtFrame) (act : Act) : State :=
  match s.intakeRefusal f words with
  | some r => s.refuseMgmt f r
  | none => s.takeCommand c f act

/-- A management REQUEST that names a command: received, charged, and taken or refused (R159, R174, R175). -/
def State.manage (s : State) (c : Command) (words : Nat) (f : MgmtFrame) (act : Act) : State :=
  s.receiveRequest .management f.malformed fun t => t.intake c words f act

/-- The operand word holds nothing but its index in bits 7 to 0; bits 31 to 8 are marked zero (12.3, R190). -/
def indexOnly (w : Word) : Bool := zeroUnder w 0xFFFFFF00

/-- An answer that leaves the state as it is. -/
def unchanged (a : Answer) (s : State) : State × Answer := (s, a)

end Sys2Proof.Machine
end

