-- ==== Sys2Proof/Machine/Ports.lean ====
section
/-! DEFINITION. The Segment Ports (chapter 4), but for issues and completions: the five port commands, hold handover, the ends of a
settle, the hold limit timer, the reset pulse. -/

namespace Sys2Proof.Machine

/-- A port command: the port in bits 7 to 0, bits 31 to 8 zero; BAD_INDEX, then RANGE, then the command on its port (R92, R94 to
R97, R190). -/
def onPort (f : MgmtFrame) (s : State) (act : PortId → State × Answer) : State × Answer :=
  match indexBelow 4 (f.word 0) with
  | none => unchanged (.refused .badIndex) s
  | some p => if indexOnly (f.word 0) then act p else unchanged (.refused .range) s

/-! ## PORT CONFIGURE (R94) -/

/-- The configuration that PORT CONFIGURE supplies, when it is valid and the enable field is zero (R94, 12.3). -/
def configureOperands (f : MgmtFrame) : Option PortConfig :=
  if field (f.word 1) 0 2 = 0 then portRecord (f.word 1) (f.word 2) else none

/-- PORT CONFIGURE in its port: all six settings are stored, or none (R94, R108, R109). -/
def portConfigureAct : Act := fun f s =>
  onPort f s fun p =>
    match configureOperands f with
    | none => unchanged (.refused .range) s
    | some c => (s.updPort p fun q => q.configure c, .ok [])

/-- PORT CONFIGURE. -/
def execPortConfigure (f : MgmtFrame) (s : State) : Host.Outcome State Fault Refusal :=
  .next (s.manage .portConfigure 3 f portConfigureAct)

/-! ## PORT ENABLE (R95) -/

/-- A DISABLED port is enabled: HELD with its hold limit timer if the hold request is asserted, else STOPPED in mode STOP, else
ACTIVE; the interval timer starts in HELD and ACTIVE. No slot of a DISABLED port is in use, and the free-slot order becomes 0, 1,
2, 3 (R78, R95, R103). -/
def Port.enable (p : Port) (modeStop : Bool) : Port :=
  let q := p.clearSlots
  if p.holdRequest then q.enterHeld.startInterval
  else if modeStop then { q with state := .stopped }
  else { q with state := .active }.startInterval

/-- PORT ENABLE in its port (R95). -/
def portEnableAct : Act := fun f s =>
  onPort f s fun p =>
    if (s.port p).state = .disabled then (s.updPort p fun q => q.enable (s.mc.mode == .stop), .done)
    else unchanged (.refused .state) s

/-- PORT ENABLE. -/
def execPortEnable (f : MgmtFrame) (s : State) : Host.Outcome State Fault Refusal :=
  .next (s.manage .portEnable 1 f portEnableAct)

/-! ## PORT DISABLE (R96) -/

/-- Some use of the port bars PORT DISABLE: a queue entry, a tracking entry, a descriptor, a slot that is not free, an upkeep in
flight (R96, R103). -/
def State.portInUse (s : State) (p : PortId) : Bool :=
  (s.requestQueue.any fun e => (s.window e.window).contents.port == p)
    || (s.tracking.any fun e => e.port == p)
    || (s.channel 0).names p || (s.channel 1).names p
    || (s.port p).anyOccupied || (s.port p).upkeep.inFlight.isSome

/-- A port becomes DISABLED: a pending upkeep is discarded as missed, the interval timer stops, the stall report is clear (R96,
R103). -/
def Port.disable (p : Port) : Port :=
  { p with state := .disabled, stallReport := false, upkeep := { p.upkeep.clearMissed with timer := none } }

/-- The port state bars PORT DISABLE (R96). -/
def PortState.barsDisable : PortState → Bool
  | .active => false
  | .stopped => false
  | .held => true
  | .settling _ => true
  | .resetting => true
  | .disabled => true

/-- PORT DISABLE in its port: STATE, then BUSY (R96). -/
def portDisableAct : Act := fun f s =>
  onPort f s fun p =>
    if (s.port p).state.barsDisable then unchanged (.refused .state) s
    else if s.portInUse p then unchanged (.refused .busy) s
    else (s.updPort p Port.disable, .ok [])

/-- PORT DISABLE. -/
def execPortDisable (f : MgmtFrame) (s : State) : Host.Outcome State Fault Refusal :=
  .next (s.manage .portDisable 1 f portDisableAct)

/-! ## PORT RESET (R92, R93) -/

/-- The port becomes RESETTING and its pulse timer starts; from STOPPED the interval timer restarts (R92, R102). -/
def Port.beginPulse (p : Port) (answerTo : Pair) : Port :=
  let q := if p.state = .stopped then p.startInterval else p
  { q with state := .resetting, pulse := some { timer := p.config.resetPulse.toNat, answerTo := some answerTo } }

/-- Every tracking entry of port p ends with FAULT PORT_RESET, oldest dispatch first, each with all the steps of R71 (R74). -/
def State.endPortEntries (s : State) (p : PortId) : State :=
  (s.tracking.filter fun e => e.port == p).foldl (fun t e => t.endEntry e (.fault .portReset)) s

/-- Slots, SWAP lock, stall report and upkeep of a port at its reset (R92, R103). -/
def Port.clearForReset (p : Port) : Port :=
  { p.clearSlots with lock := none, stallReport := false, upkeep := p.upkeep.portReset }

/-- The turn of a port is UPSTREAM (R84, R92). -/
def Port.turnUpstream (p : Port) : Port := { p with turn := .upstream }

/-- An accepted PORT RESET, in the order of R92. -/
def State.resetPort (s : State) (p : PortId) (answerTo : Pair) : State :=
  let ended := (s.updPort p fun q => q.beginPulse answerTo).endPortEntries p
  let cleared := ended.updPort p Port.clearForReset
  ((cleared.portResetCopy p 0).portResetCopy p 1).updPort p Port.turnUpstream

/-- PORT RESET in its port, by the port's state, with what follows in the port-reset event (R74, R92). -/
def portResetAct : Act := fun f s =>
  onPort f s fun p =>
    match (s.port p).state with
    | .active => ((s.resetPort p f.pair).followUp, .deferred)
    | .settling _ => ((s.resetPort p f.pair).followUp, .deferred)
    | .stopped => ((s.resetPort p f.pair).followUp, .deferred)
    | .held => unchanged (.refused .state) s
    | .disabled => unchanged (.refused .state) s
    | .resetting => unchanged (.refused .busy) s

/-- PORT RESET. -/
def execPortReset (f : MgmtFrame) (s : State) : Host.Outcome State Fault Refusal :=
  .next (s.manage .portReset 1 f portResetAct)

/-- The port at the end of its pulse: STOPPED in mode STOP, with all that follows from it, and ACTIVE otherwise (R93, R102). -/
def Port.endPulse (p : Port) (modeStop : Bool) : Port :=
  let q := { p with pulse := none }
  if modeStop then q.enterStopped else { q with state := .active }

/-- The deferred OK of a port reset is built, unless a link reset has abandoned it (R93). -/
def State.answerPulse (s : State) : Option Pair → State
  | some a => s.answerMgmt (deferredResponse a.1 a.2 .ok)
  | none => s

/-- RESET_PULSE_EXPIRY: the pulse timer has run out; the pulse ends, and the deferred OK is built (R93). A timer with time left does not
expire (log 3). -/
def execResetPulseExpiry (p : PortId) (s : State) : Host.Outcome State Fault Refusal :=
  .next (match (s.port p).state, (s.port p).pulse with
    | .resetting, some ⟨0, a⟩ => ((s.updPort p fun q => q.endPulse (s.mc.mode == .stop)).answerPulse a).followUp
    | _, _ => s)

/-! ## PORT STATUS (R97) -/

/-- PORT STATUS in its port: the image (R97). -/
def portStatusAct : Act := fun f s => onPort f s fun p => unchanged (.ok (s.port p).statusImage) s

/-- PORT STATUS. -/
def execPortStatus (f : MgmtFrame) (s : State) : Host.Outcome State Fault Refusal :=
  .next (s.manage .portStatus 1 f portStatusAct)

/-! ## Hold handover (R87 to R90) -/

/-- HOLD_TAKEN: the arbiter of port p takes the hold request, and the port settles toward HELD (R83, R87). -/
def execHoldTaken (p : PortId) (s : State) : Host.Outcome State Fault Refusal :=
  .next (if s.arbiterChoice p = some .hold then (s.updPort p Port.takeHold).followUp else s)

/-- PORT_BECOMES_HELD: a port settling toward HELD with no slot ISSUED becomes HELD (R88). -/
def execPortBecomesHeld (p : PortId) (s : State) : Host.Outcome State Fault Refusal :=
  .next (if (s.port p).state = .settling .held ∧ (s.port p).anyIssued = false then (s.updPort p Port.becomeHeld).followUp else s)

/-- PORT_BECOMES_STOPPED: a port settling toward STOPPED with no slot ISSUED becomes STOPPED (R90, R91). -/
def execPortBecomesStopped (p : PortId) (s : State) : Host.Outcome State Fault Refusal :=
  .next (if (s.port p).state = .settling .stopped ∧ (s.port p).anyIssued = false then
      (s.updPort p Port.enterStopped).followUp
    else s)

/-- A port when its hold request line becomes asserted: a STOPPED port becomes HELD at once; the grant of a DISABLED port follows
the line; elsewhere the line waits for the arbiter (R87, R90). -/
def Port.holdAsserted (p : Port) : Port :=
  let q := { p with holdRequest := true }
  match p.state with
  | .stopped => q.stoppedToHeld
  | _ => q

/-- HOLD_REQUEST_ASSERTED: the hold request line of port p, which was deasserted, becomes asserted (R90). -/
def execHoldRequestAsserted (p : PortId) (s : State) : Host.Outcome State Fault Refusal :=
  .next (if (s.port p).holdRequest then s else (s.updPort p Port.holdAsserted).followUp)

/-- A port when its hold request line becomes deasserted: the end of a hold, or the withdrawal of a hold that has been taken and
not granted (R87, R89, R102). -/
def Port.holdDeasserted (p : Port) (modeStop : Bool) : Port :=
  let q := { p with holdRequest := false }
  match p.state with
  | .held =>
    if modeStop then { q with state := .stopped, holdTimer := none }.haltInterval
    else { q with state := .active, holdTimer := none }
  | .settling .held => { q with state := if modeStop then .settling .stopped else .active }
  | _ => q

/-- HOLD_REQUEST_DEASSERTED: the hold request line of port p, which was asserted, becomes deasserted (R87, R89, R90). -/
def execHoldRequestDeasserted (p : PortId) (s : State) : Host.Outcome State Fault Refusal :=
  .next (if (s.port p).holdRequest then (s.updPort p fun q => q.holdDeasserted (s.mc.mode == .stop)).followUp else s)

/-- HOLD_LIMIT_EXPIRY: the hold limit timer of a HELD port has run out; HOLD_OVERLONG is raised and the timer stops; the port stays
HELD (R89). A timer with time left does not expire (log 3). -/
def execHoldLimitExpiry (p : PortId) (s : State) : Host.Outcome State Fault Refusal :=
  .next (if (s.port p).state = .held ∧ (s.port p).holdTimer = some 0 then
      (s.updPort p fun q => { q with holdTimer := none }).raise (.holdOverlong p)
    else s)

end Sys2Proof.Machine
end

