-- ==== Sys2Proof/Machine/WindowTable.lean ====
section
/-! DEFINITION. The Window Table (chapter 1): the five window commands, the installs at the end of a drain, and the expiry of the
drain timer. -/

namespace Sys2Proof.Machine

/-- A window made LIVE with a contents by WINDOW LOAD or by the boot image: use count and hit count 0 (R5, R15). -/
def Window.loaded (c : Contents) : Window where
  state := .live
  contents := c
  useCount := 0
  hitCount := 0
  pending := none

/-- A window that becomes DRAINING with its pending record and drain limit (R18, R20). -/
def Window.drain (w : Window) (change : PendingChange) (limit : BitVec 8) : Window :=
  { w with state := .draining, pending := some { change := change, drainLimit := limit } }

/-- A DRAINING window whose drain is reverted: LIVE with its current contents (R26). -/
def Window.revert (w : Window) : Window := { w with state := .live, pending := none }

/-! ## WINDOW LOAD (R15) -/

/-- The checks NOT_FREE, RANGE, OVERLAP of WINDOW LOAD of index i, then the load (R15). -/
def State.loadWindow (s : State) (f : MgmtFrame) (i : WindowIdx) : State × Answer :=
  if (s.window i).inUse then unchanged (.refused .notFree) s
  else
    match windowRecord (f.word 0) (f.word 1) (f.word 2) (f.word 3) with
    | none => unchanged (.refused .range) s
    | some c =>
      if s.overlaps c none then unchanged (.refused .overlap) s
      else (s.setWindow i (.loaded c), .ok [])

/-- WINDOW LOAD in the Window Table (R14, R15). -/
def windowLoadAct : Act := fun f s =>
  match indexBelow 32 (f.word 0) with
  | none => unchanged (.refused .badIndex) s
  | some i => s.loadWindow f i

/-- WINDOW LOAD. -/
def execWindowLoad (f : MgmtFrame) (s : State) : Host.Outcome State Fault Refusal :=
  .next (s.manage .windowLoad 4 f windowLoadAct)

/-! ## The start of a drain (R18, R20, R21) -/

/-- A drain starts: the window is DRAINING, and the deferred window operation is created with its timer; the answer is deferred
(R18, R20, R21). -/
def State.startDrain (s : State) (f : MgmtFrame) (i : WindowIdx) (change : PendingChange) (limit : BitVec 8) : State :=
  { s.setWindow i ((s.window i).drain change limit) with
    deferred := some
      { index := i, requester := f.requester, tag := f.tag, timer := limit.toNat * Config.microsPerMilli } }

/-! ## WINDOW REPLACE (R16 to R18) -/

/-- The operands of WINDOW REPLACE: a valid contents and a valid drain limit, bits marked zero at zero (R3, 12.3). -/
def replaceOperands (f : MgmtFrame) : Option (Contents × BitVec 8) :=
  match windowRecord (f.word 0) (f.word 1) (f.word 2) (f.word 3), drainLimit (field (f.word 4) 0 8) with
  | some c, some d => if indexOnly (f.word 4) then some (c, d) else none
  | _, _ => none

/-- The checks NOT_LIVE, BUSY, RANGE, OVERLAP of WINDOW REPLACE of index i, then the install or the drain (R16, R17, R18). -/
def State.replaceWindow (s : State) (f : MgmtFrame) (i : WindowIdx) : State × Answer :=
  if (s.window i).state = .free then unchanged (.refused .notLive) s
  else if (s.window i).state = .draining ∨ s.deferred ≠ none then unchanged (.refused .busy) s
  else
    match replaceOperands f with
    | none => unchanged (.refused .range) s
    | some (c, d) =>
      if s.overlaps c (some i) then unchanged (.refused .overlap) s
      else if (s.window i).useCount = 0 then (s.installNow i c, .done)
      else (s.startDrain f i (.replacement c) d, .deferred)

/-- WINDOW REPLACE in the Window Table (R14, R16). -/
def windowReplaceAct : Act := fun f s =>
  match indexBelow 32 (f.word 0) with
  | none => unchanged (.refused .badIndex) s
  | some i => s.replaceWindow f i

/-- WINDOW REPLACE. -/
def execWindowReplace (f : MgmtFrame) (s : State) : Host.Outcome State Fault Refusal :=
  .next (s.manage .windowReplace 5 f windowReplaceAct)

/-! ## WINDOW CLOSE (R19, R20) -/

/-- The drain limit of WINDOW CLOSE, when it is valid and bits 31 to 16 are zero (R3, 12.3). -/
def closeLimit (w : Word) : Option (BitVec 8) := if zeroUnder w 0xFFFF0000 then drainLimit (field w 8 8) else none

/-- The checks NOT_LIVE, BUSY, RANGE of WINDOW CLOSE of index i, then the close or the drain (R19, R20). -/
def State.closeWindow (s : State) (f : MgmtFrame) (i : WindowIdx) : State × Answer :=
  if (s.window i).state = .free then unchanged (.refused .notLive) s
  else if (s.window i).state = .draining ∨ s.deferred ≠ none then unchanged (.refused .busy) s
  else
    match closeLimit (f.word 0) with
    | none => unchanged (.refused .range) s
    | some d =>
      if (s.window i).useCount = 0 then (s.closeNow i, .done)
      else (s.startDrain f i .close d, .deferred)

/-- WINDOW CLOSE in the Window Table (R14, R19). -/
def windowCloseAct : Act := fun f s =>
  match indexBelow 32 (f.word 0) with
  | none => unchanged (.refused .badIndex) s
  | some i => s.closeWindow f i

/-- WINDOW CLOSE. -/
def execWindowClose (f : MgmtFrame) (s : State) : Host.Outcome State Fault Refusal :=
  .next (s.manage .windowClose 1 f windowCloseAct)

/-! ## WINDOW READ and WINDOW FIND (R28, R29) -/

/-- WINDOW READ in the Window Table: the image of the window (R28). -/
def windowReadAct : Act := fun f s =>
  match indexBelow 32 (f.word 0) with
  | none => unchanged (.refused .badIndex) s
  | some i =>
    if indexOnly (f.word 0) then unchanged (.ok ((s.window i).image i)) s else unchanged (.refused .range) s

/-- WINDOW READ. -/
def execWindowRead (f : MgmtFrame) (s : State) : Host.Outcome State Fault Refusal :=
  .next (s.manage .windowRead 1 f windowReadAct)

/-- The data word of WINDOW FIND: the index, or FFH for NONE (R29, 12.3). -/
def findWord : Option WindowIdx → Word
  | some i => num i.val
  | none => 0xFF

/-- WINDOW FIND in the Window Table: the index of the window that contains the byte address, or NONE (R29). -/
def windowFindAct : Act := fun f s => unchanged (.ok [findWord (s.windowAt (f.word 0).toNat)]) s

/-- WINDOW FIND. -/
def execWindowFind (f : MgmtFrame) (s : State) : Host.Outcome State Fault Refusal :=
  .next (s.manage .windowFind 1 f windowFindAct)

/-! ## The end of a drain (R23, R24, R26) -/

/-- INSTALL_REPLACEMENT: the pending replacement of a drained window is installed, the queue entries are re-checked, and the deferred
OK is built, in this order (R23). The event that drained the window has done so already (State.endEntry). -/
def execInstallReplacement (s : State) : Host.Outcome State Fault Refusal :=
  .next (match s.installDue with
    | some (d, .replacement c) => (s.installFor d (.replacement c)).followUp
    | _ => s)

/-- INSTALL_CLOSE: a drained window becomes FREE, its queue entries are answered REMAPPED, and the deferred OK is built, in this
order (R24). The event that drained the window has done so already (State.endEntry). -/
def execInstallClose (s : State) : Host.Outcome State Fault Refusal :=
  .next (match s.installDue with
    | some (d, .close) => (s.installFor d .close).followUp
    | _ => s)

/-- The drain of the deferred window operation is reverted: the window is LIVE with its current contents, the operation ends, and the
deferred answer is FAULT DRAIN_EXPIRED (R26). -/
def State.revertDrain (s : State) (d : DeferredOp) : State :=
  (s.setWindow d.index (s.window d.index).revert).endDeferred.answerDeferredOp d (.fault .drainExpired)

/-- DRAIN_TIMER_EXPIRY: the drain timer has run out with its window still DRAINING, and the drain is reverted (R26, R27). A timer with
time left does not expire (log 3). -/
def execDrainTimerExpiry (s : State) : Host.Outcome State Fault Refusal :=
  .next (match s.deferred with
    | some d =>
      if d.timer = 0 ∧ (s.window d.index).state = .draining then (s.revertDrain d).followUp else s
    | none => s)

end Sys2Proof.Machine
end

