-- ==== Sys2Proof/Machine/Boot.lean ====
section
/-! DEFINITION. The Boot Reader (chapter 11): BOOT_READ_ISSUE, what a completion or a timeout does to a boot read, validation,
application, and the end of the boot. -/

namespace Sys2Proof.Machine

/-! ## Reads (R183, R86) -/

/-- BOOT_READ_ISSUE: the arbiter of P0 issues a read of the Boot Reader in the head free slot; the turn is unchanged (R84, R86,
R183). -/
def execBootReadIssue (s : State) : Host.Outcome State Fault Refusal :=
  .next (match s.arbiterChoice 0, (s.port 0).freeOrder with
    | some .boot, k :: _ => (s.issueBootRead k).followUp
    | _, _ => s)

/-! ## Validation (R185) -/

/-- What the header decides: the result that ends the boot, or none (R185, checks 1 and 2). -/
def BootReader.headerResult (b : BootReader) : Option BootResult :=
  if b.word 0 ≠ Config.bootMarker then some .absent
  else if 32 < b.windowCount ∨ b.word 3 ≠ 0 then some .rejectedFormat
  else none

/-- All the values of a list of optional values, if none is missing. -/
def allPresent {α : Type} : List (Option α) → Option (List α)
  | [] => some []
  | none :: _ => none
  | some a :: xs => (allPresent xs).map fun as => a :: as

/-- A window record of the image (R185, check 4). -/
def BootReader.windowRecordAt (b : BootReader) (j : Nat) : Option (WindowIdx × Contents) :=
  let k := 4 + 4 * j
  match indexBelow 32 (b.word k), windowRecord (b.word k) (b.word (k + 1)) (b.word (k + 2)) (b.word (k + 3)) with
  | some i, some c => some (i, c)
  | _, _ => none

/-- The port record of port p: its enable flag and its settings (R185, check 4). -/
def BootReader.portRecordAt (b : BootReader) (p : PortId) : Option (Bool × PortConfig) :=
  let k := 4 + 4 * b.windowCount + 2 * p.val
  match enableFlag (b.word k), portRecord (b.word k) (b.word (k + 1)) with
  | some on, some c => some (on, c)
  | _, _ => none

/-- A validated image. -/
structure BootImage where
  windows : List (WindowIdx × Contents)
  ports : List (Bool × PortConfig)
  supervision : BitVec 8 × Bool
  deriving DecidableEq, Repr

/-- No two records name one index, and no two ranges share an address (R185, checks 4 and 5). -/
def windowsDistinct : List (WindowIdx × Contents) → Bool
  | [] => true
  | w :: ws => (ws.all fun v => v.1 != w.1 && !rangesMeet w.2.range v.2.range) && windowsDistinct ws

/-- The records of a staged image, when all are valid and no two windows overlap; otherwise REJECTED(FORMAT) (R185, checks 4 and
5). -/
def BootReader.records (b : BootReader) : Option BootImage :=
  match allPresent ((List.range b.windowCount).map b.windowRecordAt), allPresent ((List.finRange 4).map b.portRecordAt),
      supervisionWord (b.word (12 + 4 * b.windowCount)) with
  | some ws, some ps, some sv =>
    if windowsDistinct ws then some { windows := ws, ports := ps, supervision := sv } else none
  | _, _, _ => none

/-- The sum of the staged words modulo 2^32 (R185, check 3). -/
def BootReader.sum (b : BootReader) : Word := b.staging.foldl (· + ·) 0

/-! ## Application (R186) -/

/-- The enable flag of a port record acts by the port's state, after its settings have been stored (R186). -/
def Port.applyRecord (p : Port) (on : Bool) (c : PortConfig) : Port :=
  let q := p.configure c
  match p.state, on with
  | .disabled, true => q.enable false
  | .disabled, false => q
  | _, true => q
  | _, false => { q.disable with holdTimer := none }

/-- A window record is applied (R5, R186). -/
def State.applyWindow (s : State) (r : WindowIdx × Contents) : State := s.setWindow r.1 (.loaded r.2)

/-- The port record in place p of the image is applied (R186). -/
def State.applyPort (s : State) (ports : List (Bool × PortConfig)) (p : PortId) : State :=
  match ports[p.val]? with
  | some r => s.updPort p fun q => q.applyRecord r.1 r.2
  | none => s

/-- A LOADED image is applied: windows, ports S0 to S3, supervision, in this order (R186). -/
def State.applyImage (s : State) (im : BootImage) : State :=
  let t := im.windows.foldl State.applyWindow s
  let u := (((t.applyPort im.ports 0).applyPort im.ports 1).applyPort im.ports 2).applyPort im.ports 3
  { u with mc := { u.mc with period := im.supervision.1, wakeOnRequest := im.supervision.2 } }

/-! ## The end of the boot (R187) -/

/-- The boot finishes with a result, after the application of a LOADED image (R135, R176, R187). -/
def State.finishBoot (s : State) (r : BootResult) : State :=
  let recorded : State :=
    { s with
      boot := { s.boot with phase := .finished, staging := [], inFlight := none, result := r }
      cause := { s.cause with bootResult := r } }
  let t := (recorded.raise (.bootResult r)).changeMode .run .bootEnd
  { t with mc := t.mc.restart, li := { t.li with creditPending := true } }

/-- The last body read is staged: sum, records, and the end of the boot (R185, R186, R187). -/
def State.finishBody (s : State) : State :=
  if s.boot.sum ≠ 0 then s.finishBoot .rejectedCheck
  else
    match s.boot.records with
    | none => s.finishBoot .rejectedFormat
    | some im => (s.applyImage im).finishBoot .loaded

/-- The words of a read are appended to the staging area, and the read ends (R183, R184). -/
def BootReader.stage (b : BootReader) (data : List Word) : BootReader :=
  { b with
    staging := b.staging ++ data
    nextAddr := b.nextAddr + BitVec.ofNat 28 (4 * data.length)
    inFlight := none }

/-- The checks that fall due when a read is staged (R184, R185). -/
def State.staged (s : State) : State :=
  match s.boot.phase with
  | .header =>
    match s.boot.headerResult with
    | some r => s.finishBoot r
    | none => { s with boot := { s.boot with phase := .body } }
  | .body => if s.boot.imageWords ≤ s.boot.staging.length then s.finishBody else s
  | .finished => s

/-! ## Completions and timeouts of a boot read (R184) -/

/-- A completion delivered to the Boot Reader for slot k of port p (R184). -/
def State.completeBoot (s : State) (p : PortId) (k : SlotId) (st : CompletionStatus) (data : List Word) : State :=
  let freed := s.updPort p fun q => q.freeSlot k
  match s.boot.inFlight with
  | none => freed
  | some r =>
    match st with
    | .ok =>
      if data.length = r.count then { freed with boot := freed.boot.stage data }.staged
      else freed.finishBoot .rejectedAccess
    | .error => freed.finishBoot .rejectedAccess
    | .retry =>
      let counted := freed.updPort p Port.countRetry
      if r.retries < (s.port p).config.retryLimit.toNat then
        { counted with
          boot := { counted.boot with inFlight := some { r with retries := r.retries + 1, state := .waiting } } }
      else counted.finishBoot .rejectedAccess

/-- The timeout of the boot read in flight (R184). -/
def State.timeoutBoot (s : State) : State :=
  match s.boot.inFlight with
  | some _ => s.finishBoot .rejectedAccess
  | none => s

end Sys2Proof.Machine
end

