-- ==== Sys2Proof/Machine/ChannelCommands.lean ====
section
/-! DEFINITION. The management commands of the Copy Engine (chapter 6): CHANNEL LOAD, ABORT, RESUME, CLEAR, STATUS, ENGINE START,
ENGINE QUENCH. -/

namespace Sys2Proof.Machine

/-- A channel command with one operand word: the channel in bits 7 to 0, bits 31 to 8 zero; BAD_INDEX, then RANGE (R126 to R128,
R132, R190). -/
def onChannel (f : MgmtFrame) (s : State) (act : ChannelId → State × Answer) : State × Answer :=
  match indexBelow 2 (f.word 0) with
  | none => unchanged (.refused .badIndex) s
  | some c => if indexOnly (f.word 0) then act c else unchanged (.refused .range) s

/-! ## CHANNEL LOAD (R114) -/

/-- The descriptor that CHANNEL LOAD supplies, when it is valid and bits 31 to 8 of the channel word are zero (R113, R190). -/
def loadOperands (f : MgmtFrame) : Option Descriptor :=
  if indexOnly (f.word 0) then descriptorWords (f.word 1) (f.word 2) (f.word 3) else none

/-- A port that the descriptor names is DISABLED (R114). -/
def State.portOffFor (s : State) (d : Descriptor) : Bool :=
  (List.finRange 4).any fun p => d.names p && (s.port p).state == .disabled

/-- A channel that takes a descriptor: current in IDLE, pending in the other states (R114). -/
def Channel.load (ch : Channel) (d : Descriptor) (enable : Bool) : Channel :=
  if ch.state = .idle then { ch with state := stateByEnable enable, current := some d.start, permit := false }
  else { ch with pending := some d }

/-- CHANNEL LOAD in the Copy Engine: BAD_INDEX, STATE, BUSY, RANGE, PORT_OFF (R114). -/
def channelLoadAct : Act := fun f s =>
  match indexBelow 2 (f.word 0) with
  | none => unchanged (.refused .badIndex) s
  | some c =>
    if (s.channel c).state = .aborting then unchanged (.refused .state) s
    else if (s.channel c).pending.isSome then unchanged (.refused .busy) s
    else
      match loadOperands f with
      | none => unchanged (.refused .range) s
      | some d =>
        if s.portOffFor d then unchanged (.refused .portOff) s
        else (s.setChannel c ((s.channel c).load d s.engineEnable), .done)

/-- CHANNEL LOAD. -/
def execChannelLoad (f : MgmtFrame) (s : State) : Host.Outcome State Fault Refusal :=
  .next (s.manage .channelLoad 4 f channelLoadAct)

/-! ## CHANNEL ABORT, RESUME, CLEAR, STATUS (R126 to R128, R132) -/

/-- A half of the unit in flight is ISSUED (R128). -/
def Channel.halfIssued (ch : Channel) : Bool :=
  match ch.unit with
  | some u =>
    match u.half with
    | .issued _ => true
    | .ready => false
    | .waiting => false
  | none => false

/-- CHANNEL ABORT in the Copy Engine (R128). -/
def channelAbortAct : Act := fun f s =>
  onChannel f s fun c =>
    match (s.channel c).state with
    | .idle => unchanged (.refused .state) s
    | .aborting => unchanged (.refused .busy) s
    | _ =>
      if (s.channel c).halfIssued then (s.setChannel c { s.channel c with state := .aborting }, .ok [])
      else (s.abortNow c (s.channel c).remaining, .done)

/-- CHANNEL ABORT. -/
def execChannelAbort (f : MgmtFrame) (s : State) : Host.Outcome State Fault Refusal :=
  .next (s.manage .channelAbort 1 f channelAbortAct)

/-- CHANNEL RESUME in the Copy Engine (R126). -/
def channelResumeAct : Act := fun f s =>
  onChannel f s fun c =>
    if (s.channel c).state = .faulted then
      (s.setChannel c { s.channel c with state := stateByEnable s.engineEnable, lastFault := none }, .done)
    else unchanged (.refused .state) s

/-- CHANNEL RESUME. -/
def execChannelResume (f : MgmtFrame) (s : State) : Host.Outcome State Fault Refusal :=
  .next (s.manage .channelResume 1 f channelResumeAct)

/-- CHANNEL CLEAR in the Copy Engine (R127). -/
def channelClearAct : Act := fun f s =>
  onChannel f s fun c =>
    if (s.channel c).state = .faulted then (s.setChannel c .initial, .ok []) else unchanged (.refused .state) s

/-- CHANNEL CLEAR. -/
def execChannelClear (f : MgmtFrame) (s : State) : Host.Outcome State Fault Refusal :=
  .next (s.manage .channelClear 1 f channelClearAct)

/-- CHANNEL STATUS in the Copy Engine: the image (R132). -/
def channelStatusAct : Act := fun f s => onChannel f s fun c => unchanged (.ok (s.channelImage c)) s

/-- CHANNEL STATUS. -/
def execChannelStatus (f : MgmtFrame) (s : State) : Host.Outcome State Fault Refusal :=
  .next (s.manage .channelStatus 1 f channelStatusAct)

/-! ## ENGINE START, ENGINE QUENCH (R130, R131) -/

/-- A channel when the engine is started: PAUSED becomes RUNNING (R131). -/
def Channel.start (ch : Channel) : Channel := if ch.state = .paused then { ch with state := .running } else ch

/-- The engine enable is set, and every PAUSED channel becomes RUNNING (R131). -/
def State.startEngine (s : State) : State := { s with engineEnable := true }.mapChannels Channel.start

/-- ENGINE START in the Copy Engine; an enable that is set already changes nothing (R131). -/
def engineStartAct : Act := fun _ s =>
  if s.mc.mode ≠ .run then unchanged (.refused .mode) s
  else if s.engineEnable then unchanged (.ok []) s
  else (s.startEngine, .done)

/-- ENGINE START. -/
def execEngineStart (f : MgmtFrame) (s : State) : Host.Outcome State Fault Refusal :=
  .next (s.manage .engineStart 0 f engineStartAct)

/-- ENGINE QUENCH in the Copy Engine (R130). -/
def engineQuenchAct : Act := fun _ s => (s.quench, .ok [])

/-- ENGINE QUENCH. -/
def execEngineQuench (f : MgmtFrame) (s : State) : Host.Outcome State Fault Refusal :=
  .next (s.manage .engineQuench 0 f engineQuenchAct)

end Sys2Proof.Machine
end

