-- ==== Sys2Proof/Machine/Frame.lean ====
section
/-! DEFINITION. Frames on the Request Link as bytes: the frame check and its CRC (R171), reading a received frame into the command
it stands for (R174, R190), the delimiters that cut the line into frames (R171), and the bytes of every frame the part sends (R191,
12.2). -/

namespace Sys2Proof.Machine

/-! ## The check field (R171) -/

/-- One bit of the CRC with polynomial x^16 + x^12 + x^5 + 1. -/
def crcBit (c : BitVec 16) : BitVec 16 := if c.msb then (c <<< 1) ^^^ 0x1021 else c <<< 1

/-- One byte of the CRC, most significant bit first. -/
def crcByte (c : BitVec 16) (b : Byte) : BitVec 16 :=
  crcBit (crcBit (crcBit (crcBit (crcBit (crcBit (crcBit (crcBit (c ^^^ (b.setWidth 16 <<< 8)))))))))

/-- The CRC over bytes, initial value FFFFH, no final inversion. -/
def crc (bytes : List Byte) : BitVec 16 := bytes.foldl crcByte 0xFFFF

/-- The two bytes of a check field, high byte first. -/
def checkField (c : BitVec 16) : List Byte := [c.extractLsb' 8 8, c.extractLsb' 0 8]

/-- Bytes with their check field. -/
def sealed (bytes : List Byte) : List Byte := bytes ++ checkField (crc bytes)

/-- The bytes of a frame before its check field. -/
def beforeCheck (frame : List Byte) : List Byte := frame.take (frame.length - 2)

/-- The CRC test: the frame holds a kind byte and a check field, which equals the CRC of the bytes before it (R171). -/
def crcCorrect (frame : List Byte) : Bool := 3 ≤ frame.length && frame == sealed (beforeCheck frame)

/-! ## Reading a received frame -/

/-- Byte k of a frame; 0 past its end. -/
def byteAt (bytes : List Byte) (k : Nat) : Byte := bytes.getD k 0

/-- The pool field of a REQUEST: 0 data, 1 management, 2 and 3 neither (12.2). -/
def poolField (body : List Byte) : Nat := ((byteAt body 2).extractLsb' 6 2).toNat

/-- The kind test of the frame check (R171). -/
def kindAccepted (body : List Byte) : Bool :=
  match (byteAt body 0).toNat with
  | 1 => 4 ≤ body.length && poolField body ≤ 1
  | 2 => true
  | 3 => true
  | _ => false

/-- A frame passes the check (R171). -/
def frameCheck (frame : List Byte) : Bool := crcCorrect frame && kindAccepted (beforeCheck frame)

/-- Four bytes as a word, most significant first (R190). -/
def wordOf (a b c d : Byte) : Word :=
  a.setWidth 32 <<< 24 ||| b.setWidth 32 <<< 16 ||| c.setWidth 32 <<< 8 ||| d.setWidth 32

/-- Bytes as whole words; bytes that fill no word are dropped (such a frame is malformed). -/
def wordsOf : List Byte → List Word
  | a :: b :: c :: d :: rest => wordOf a b c d :: wordsOf rest
  | _ => []

/-- Bytes before the payload or operands of a REQUEST: 10 for data, 6 for management (R190). -/
def headerBytes (body : List Byte) : Nat := if poolField body = 0 then 10 else 6

/-- A frame that passes the check is malformed (R190). -/
def isMalformed (frame : List Byte) : Bool :=
  let body := beforeCheck frame
  let short := (byteAt body 1).toNat != frame.length
  if (byteAt body 0).toNat = 1 then
    short || body.length < headerBytes body || (body.length - headerBytes body) % 4 != 0
      || (byteAt body 2).extractLsb' 0 3 != 0 || (byteAt body 3).extractLsb' 6 2 != 0
      || (poolField body == 1 && byteAt body 5 != 0)
  else short || frame.length != 4

/-- The command a management command code names, or UNKNOWN_COMMAND (12.3). -/
def commandOf (code : Byte) (f : MgmtFrame) : Instr :=
  match code.toNat with
  | 0x10 => .windowLoad f
  | 0x11 => .windowReplace f
  | 0x12 => .windowClose f
  | 0x13 => .windowRead f
  | 0x14 => .windowFind f
  | 0x20 => .portConfigure f
  | 0x21 => .portEnable f
  | 0x22 => .portDisable f
  | 0x23 => .portReset f
  | 0x24 => .portStatus f
  | 0x30 => .channelLoad f
  | 0x31 => .channelAbort f
  | 0x32 => .channelResume f
  | 0x33 => .channelClear f
  | 0x34 => .channelStatus f
  | 0x35 => .engineStart f
  | 0x36 => .engineQuench f
  | 0x40 => .quiesce f
  | 0x41 => .resume f
  | 0x42 => .stop f
  | 0x43 => .modeStatus f
  | 0x44 => .supervisionSet f
  | 0x50 => .noticeMask f
  | 0x60 => .managersSet f
  | 0x61 => .countersRead f
  | 0x62 => .trackRead f
  | 0x63 => .identRead f
  | 0x70 => .causeRead f
  | _ => .unknownCommand code f

/-- The requester of a REQUEST (12.2). -/
def requesterField (body : List Byte) : Requester := ((byteAt body 2).extractLsb' 3 3).toFin

/-- The tag of a REQUEST (12.2). -/
def tagField (body : List Byte) : Tag := ((byteAt body 3).extractLsb' 0 6).toFin

/-- The command that the bytes received between an opening and a closing delimiter stand for (R171, R174, R190). -/
def receivedFrame (frame : List Byte) : Instr :=
  let body := beforeCheck frame
  let rest := wordsOf (body.drop (headerBytes body))
  if !frameCheck frame then .frameCheckFailed
  else if (byteAt body 0).toNat = 2 then .idle (isMalformed frame)
  else if (byteAt body 0).toNat = 3 then .linkReset (isMalformed frame)
  else if poolField body = 0 then
    .dataRequest
      { requester := requesterField body, tag := tagField body, malformed := isMalformed frame,
        kindCode := byteAt body 4, length := byteAt body 5,
        address := wordOf (byteAt body 6) (byteAt body 7) (byteAt body 8) (byteAt body 9), payload := rest }
  else
    commandOf (byteAt body 4)
      { requester := requesterField body, tag := tagField body, malformed := isMalformed frame, operands := rest }

/-! ## Delimiters (R171) -/

/-- What the receiver tells apart on the line: fill, the two delimiters, and the bytes of a frame (10.2, R171). -/
inductive LineSymbol where
  | fill
  | opening
  | closing
  | byte (b : Byte)
  deriving DecidableEq, Repr

/-- One symbol on the line, with the bytes received of the frame in progress, if there is one: the bytes in progress afterwards, and the
command that it completes. A closing delimiter gives the frame to the check; an opening delimiter received before it ends the frame in
progress, which fails the check, and opens a new one (R171). A byte or a closing delimiter outside a frame completes nothing, and fill
inside a frame leaves the frame in progress: DESIGN CHOICE, safe, log 9. -/
def receiveSymbol : Option (List Byte) → LineSymbol → Option (List Byte) × List Instr
  | progress, .fill => (progress, [.fill])
  | none, .opening => (some [], [])
  | some _, .opening => (some [], [.frameCheckFailed])
  | none, .closing => (none, [])
  | some bytes, .closing => (none, [receivedFrame bytes])
  | none, .byte _ => (none, [])
  | some bytes, .byte b => (some (bytes ++ [b]), [])

/-- The commands that a run of symbols on the line stands for, from the frame in progress on (R171). -/
def receivedLine (progress : Option (List Byte)) : List LineSymbol → List Instr
  | [] => []
  | x :: xs => (receiveSymbol progress x).2 ++ receivedLine (receiveSymbol progress x).1 xs

/-! ## Frames the part sends (12.2, R191) -/

/-- The bytes of a word, most significant first (R190). -/
def bytesOf (w : Word) : List Byte :=
  [w.extractLsb' 24 8, w.extractLsb' 16 8, w.extractLsb' 8 8, w.extractLsb' 0 8]

/-- A number as a byte. -/
def byte (n : Nat) : Byte := BitVec.ofNat 8 n

/-- Status codes. -/
def Status.code : Status → Nat
  | .ok => 0
  | .refused _ => 1
  | .fault _ => 2

/-- The reason byte; 0 when absent (R191). -/
def Status.reasonCode : Status → Nat
  | .ok => 0
  | .refused r => r.code
  | .fault r => r.code

/-- Byte 6 of a RESPONSE: PARTIAL, swapped present, swapped yes. -/
def Response.marks (r : Response) : Nat :=
  (if r.partialMark then 1 else 0) +
    match r.swapped with
    | none => 0
    | some false => 2
    | some true => 6

/-- The bytes of a RESPONSE before its check field. -/
def Response.body (r : Response) : List Byte :=
  [0x81, byte (10 + 4 * r.data.length), byte (r.pool.code * 64 + r.requester.val * 8), byte r.tag.val,
   byte r.status.code, byte r.status.reasonCode, byte r.marks, byte r.data.length] ++ r.data.flatMap bytesOf

/-- The bytes of a NOTICE before its check field, with the lost count it carries. -/
def NoticeRecord.body (n : NoticeRecord) (lost : Nat) : List Byte :=
  let d := n.notice.detailWords
  [0x82, byte (10 + 4 * d.length), byte n.notice.kindCode, byte n.notice.subject.code, byte n.count, byte d.length,
   byte (lost / 256), byte lost] ++ d.flatMap bytesOf

/-- The bytes of a frame the part sends, before its check field. -/
def SentFrame.body : SentFrame → List Byte
  | .response r => r.body
  | .notice n lost => n.body lost
  | .credit => [0x83, 6, 0x18, 0x02]

/-- The bytes of a frame the part sends, with the check field (R171, R191). -/
def SentFrame.bytes (f : SentFrame) : List Byte := sealed f.body

/-- Bytes of line time a frame takes: its body, its check field and two delimiters of one byte time each (R178). -/
def SentFrame.lineBytes (f : SentFrame) : Nat := f.body.length + 2 + 2

/-- The transmitter takes a frame (R178). -/
def LinkInterface.take (l : LinkInterface) (f : SentFrame) : LinkInterface :=
  { l with transmission := some { frame := f, effective := true, bytesLeft := f.lineBytes } }

end Sys2Proof.Machine
end

