-- ==== Sys2Proof/Machine/Reset.lean ====
section
/-! DEFINITION. Power-on and pin reset (R182, R188): POWER_ON, PIN_RESET, RESETN_DEASSERTED. -/

namespace Sys2Proof.Machine

/-- Every block at its power-on and pin reset values, with the given Cause Record and level of RESETN. The input lines keep
their levels, and the queue of commands stays (R81, R182; log 5). -/
def State.atReset (s : State) (cause : CauseRecord) (resetn : Bool) : State :=
  { State.reset with
    pending := s.pending
    resetn := resetn
    ports := tabulate fun p =>
      { State.reset.ports[p] with holdRequest := s.ports[p].holdRequest, pace := s.ports[p].pace }
    cause := cause }

/-- The Cause Record after a pin reset (R188). -/
def CauseRecord.pinReset (r : CauseRecord) (m : Mode) : CauseRecord where
  last := .pin
  modeAtReset := some m
  previous := some r.last
  resetCount := min 65535 (r.resetCount + 1)
  bootResult := .notRun

/-- The Cause Record after a link reset (R188). -/
def CauseRecord.linkReset (r : CauseRecord) (m : Mode) : CauseRecord where
  last := .link
  modeAtReset := some m
  previous := some r.last
  resetCount := min 65535 (r.resetCount + 1)
  bootResult := r.bootResult

/-- POWER_ON: every block takes its power-on values, and the boot begins: the Boot Reader offers its first read in this event (R182,
R188). -/
def execPowerOn (s : State) : Host.Outcome State Fault Refusal := .next (s.atReset .powerOn false).followUp

/-- PIN_RESET: RESETN is asserted; every block returns to its reset values (R182, R188). A RESETN that is asserted already
cannot be asserted again (log 4). -/
def execPinReset (s : State) : Host.Outcome State Fault Refusal :=
  .next (s.unlessReset fun s => s.atReset (s.cause.pinReset s.mc.mode) true)

/-- RESETN_DEASSERTED: RESETN, which was asserted, is deasserted and the boot begins: the Boot Reader offers its first read in this
event, with the mode BOOTING and P0 ACTIVE as reset left them (R182). -/
def execResetnDeasserted (s : State) : Host.Outcome State Fault Refusal :=
  .next (if s.resetn then { s with resetn := false }.followUp else s)

end Sys2Proof.Machine
end

