-- ==== Sys2Proof/Machine/Link.lean ====
section
/-! DEFINITION. The Request Link (chapter 10): fill, failed frames, IDLE and LINK RESET frames, the silence timer, and the
transmitter. -/

namespace Sys2Proof.Machine

/-! ## Receiving -/

/-- FILL: the silence timer restarts, and a DOWN link becomes UP (R173). -/
def execFill (s : State) : Host.Outcome State Fault Refusal :=
  .next (s.unlessReset fun s => { s with li := s.li.seen }.raiseRestored s.li.up)

/-- The Link Interface after a frame that fails the check: counted; on an UP link the silence timer restarts, and the eighth
failure running brings it DOWN (R172, R173). -/
def LinkInterface.checkFailed (l : LinkInterface) : LinkInterface :=
  let run := min Config.failureRun (l.failureRun + 1)
  let l := { l with checkErrors := l.checkErrors + 1, failureRun := run }
  if !l.up then l
  else if run = Config.failureRun then { l with up := false, silence := none }
  else { l with silence := some Config.silenceMicros }

/-- FRAME_CHECK_FAILED: the frame is discarded and counted (R172). -/
def execFrameCheckFailed (s : State) : Host.Outcome State Fault Refusal :=
  .next (s.unlessReset fun s => { s with li := s.li.checkFailed })

/-- A malformed frame is counted (R174, R180). -/
def State.countMalformed (s : State) (malformed : Bool) : State :=
  if malformed then { s with li := { s.li with malformed := s.li.malformed + 1 } } else s

/-- IDLE: a valid frame with no further effect; counted if malformed (R174). -/
def execIdle (malformed : Bool) (s : State) : Host.Outcome State Fault Refusal :=
  .next (s.unlessReset fun s => (s.validFrame.raiseRestored s.li.up).countMalformed malformed)

/-! ## Link reset (R179 and the parts of the other blocks) -/

/-- A window at link reset: a DRAINING window returns to LIVE with its current contents, the use count becomes 0 (R6). -/
def Window.linkReset (w : Window) : Window :=
  { w with state := if w.state = .draining then .live else w.state, useCount := 0, pending := none }

/-- A slot at link reset: ISSUED by a tracking entry becomes LINGERING (R73). -/
def Slot.linkReset : Slot → Slot
  | .issued (.tracking _) _ _ => .lingering
  | sl => sl

/-- A port at link reset: slots ISSUED by tracking entries linger, the SWAP lock is released, the answer of a port reset in
progress is abandoned (R73, R81, R93). -/
def Port.linkReset (p : Port) : Port :=
  { p with
    slots := tabulate fun k => p.slots[k].linkReset
    lock := none
    pulse := p.pulse.map fun u => { u with answerTo := none } }

/-- The stall test of a port: all four slots LINGERING with the stall report clear raise PORT_STALLED and set it (R65). -/
def State.stallTest (s : State) (p : PortId) : State :=
  if (s.port p).stalled && !(s.port p).stallReport then
    (s.updPort p fun q => { q with stallReport := true }).raise (.portStalled p)
  else s

/-- The Link Interface's part of link reset: the response queue is discarded, both balances are 0, a frame in transmission
loses its effect, CREDIT is pending (R179). -/
def LinkInterface.linkReset (l : LinkInterface) : LinkInterface :=
  { l with
    responses := []
    dataCredit := 0
    mgmtCredit := 0
    transmission := l.transmission.map fun t => { t with effective := false }
    creditPending := true }

/-- The queues, tables and records at link reset, before any notice it raises (R6, R50, R73, R133, R157, R158, R179, R188). -/
def State.linkResetBlocks (s : State) : State :=
  let t : State :=
    { s with
      li := s.li.linkReset
      deferred := none
      requestQueue := []
      tags := []
      tracking := []
      mgmtQueue := []
      nu := { s.nu with queue := [], run := 0 }
      cause := s.cause.linkReset s.mc.mode }
  (((t.mapWindows Window.linkReset).mapPorts Port.linkReset).quench).reportQueue.reportTracking

/-- The Mode Controller's part of link reset (R142). -/
def State.linkResetMode (s : State) : State :=
  let t := { s with mc := { s.mc with stopOnQuiet := false } }
  match s.mc.mode with
  | .run => t
  | .stop => t.leaveStop .linkReset
  | _ => t.changeMode .run .linkReset

/-- The link reset event: the blocks' parts, then their notices into the emptied queue, MODE_CHANGED, PORT_STALLED of S0 to
S3, and LINK_RESTORED if the frame brought the link UP (R65, R142, R157, R179; the order of these is DEDUCED, unsafe, log 8). -/
def State.takeLinkReset (s : State) (wasUp : Bool) : State :=
  ((((s.linkResetBlocks.linkResetMode.stallTest 0).stallTest 1).stallTest 2).stallTest 3).raiseRestored wasUp

/-- LINK_RESET: taken in RUN, QUIESCING, QUIET and STOP, with what follows from it at the ports; in BOOTING discarded and counted as an
overrun with no notice; a malformed one is only counted (R174, R179). -/
def execLinkReset (malformed : Bool) (s : State) : Host.Outcome State Fault Refusal :=
  .next (s.unlessReset fun s =>
    let t := s.validFrame
    if malformed then (t.raiseRestored s.li.up).countMalformed true
    else if s.mc.mode = .booting then
      { t with li := { t.li with overruns := t.li.overruns + 1 } }.raiseRestored s.li.up
    else (t.takeLinkReset s.li.up).followUp)

/-- SILENCE_TIMER_EXPIRY: the silence timer of an UP link has run out, and the link is DOWN (R173). A timer with time left does not
expire, so that fill or a frame recognised first leaves the link UP (R181; log 3). -/
def execSilenceTimerExpiry (s : State) : Host.Outcome State Fault Refusal :=
  .next (if s.li.up ∧ s.li.silence = some 0 then { s with li := { s.li with up := false, silence := none } } else s)

/-! ## The transmitter (R176, R178, R153, R154) -/

/-- TAKE_CREDIT: the pending CREDIT frame is taken (R176, R178). -/
def execTakeCredit (s : State) : Host.Outcome State Fault Refusal :=
  .next (if s.transmitChoice = some .credit then { s with li := { s.li.take .credit with creditPending := false } } else s)

/-- TAKE_NOTICE: the head record leaves the queue in a NOTICE frame with the lost count; lost count and response run return
to 0 (R153). -/
def execTakeNotice (s : State) : Host.Outcome State Fault Refusal :=
  .next (match s.transmitChoice, s.nu.queue with
    | some .notice, n :: rest =>
      { s with
        li := s.li.take (.notice n s.nu.lost)
        nu := { s.nu with queue := rest, lost := 0, run := 0 } }
    | _, _ => s)

/-- The response run after a RESPONSE is taken: counted while a notice waits, up to 8 (R154). -/
def NoticeUnit.countResponse (u : NoticeUnit) : NoticeUnit :=
  if u.queue.isEmpty then u else { u with run := min Config.responseRun (u.run + 1) }

/-- TAKE_RESPONSE: the RESPONSE at the head of the response queue is taken (R154, R178). -/
def execTakeResponse (s : State) : Host.Outcome State Fault Refusal :=
  .next (match s.transmitChoice, s.li.responses with
    | some .response, r :: rest =>
      { s with
        li := { s.li.take (.response r) with responses := rest }
        nu := s.nu.countResponse }
    | _, _ => s)

/-- The transmitter is free again. -/
def LinkInterface.sent (l : LinkInterface) : LinkInterface := { l with transmission := none }

/-- The pair of a RESPONSE record. -/
def Response.pair (r : Response) : Pair := (r.requester, r.tag)

/-- The effects of a RESPONSE frame that has been sent: the credit returns; without the refusal mark the pair leaves the tag
set, and for a management record the management queue entry leaves too (R33, R158, R175, R178). -/
def State.responseSent (s : State) (r : Response) : State :=
  let t := { s with li := s.li.setCredit r.pool (s.li.credit r.pool + 1) }
  if r.refusalMark then t
  else
    let u := t.releaseTag r.pair
    match r.pool with
    | .data => u
    | .management => { u with mgmtQueue := u.mgmtQueue.filter fun e => (e.requester, e.tag) ≠ r.pair }

/-- RESPONSE_SENT: the RESPONSE frame in transmission ends; after a link reset its end has no effect (R178, R179). -/
def execResponseSent (s : State) : Host.Outcome State Fault Refusal :=
  .next (match s.li.transmission with
    | some ⟨.response r, effective, _⟩ =>
      let t := { s with li := s.li.sent }
      if effective then t.responseSent r else t
    | _ => s)

/-- CREDIT_SENT: the CREDIT frame ends and both balances are full; after a link reset its end has no effect (R176, R179). -/
def execCreditSent (s : State) : Host.Outcome State Fault Refusal :=
  .next (match s.li.transmission with
    | some ⟨.credit, effective, _⟩ =>
      let l := s.li.sent
      { s with
        li := if effective then { l with dataCredit := Config.dataPool, mgmtCredit := Config.managementPool } else l }
    | _ => s)

/-- NOTICE_SENT: the NOTICE frame ends, with no further effect (R178). -/
def execNoticeSent (s : State) : Host.Outcome State Fault Refusal :=
  .next (match s.li.transmission with
    | some ⟨.notice _ _, _, _⟩ => { s with li := s.li.sent }
    | _ => s)

end Sys2Proof.Machine
end

