-- ==== Sys2Proof/Machine/Completion.lean ====
section
/-! DEFINITION. What arrives at a slot of a port: COMPLETION and ISSUE_TIMER_EXPIRY, each handed to the holder of the slot (R64, R76,
R77, R79). -/

namespace Sys2Proof.Machine

/-- A completion is delivered to the holder of ISSUED slot k of port p (R76). -/
def State.deliver (s : State) (p : PortId) (k : SlotId) (h : Holder) (st : CompletionStatus) (data : List Word) : State :=
  match h with
  | .tracking i =>
    match s.entry? i with
    | some e => s.completeEntry p e k st data
    | none => s.updPort p fun q => q.freeSlot k
  | .upkeep => s.completeUpkeep p k st
  | .copy c half => s.completeCopy p k c half st data
  | .boot => s.completeBoot p k st data

/-- A late completion: the slot is freed, the completion is counted, the stall report is cleared, LATE_COMPLETION is raised (R64,
R65). -/
def State.lateCompletion (s : State) (p : PortId) (k : SlotId) : State :=
  (s.updPort p fun q => { (q.freeSlot k).countLate with stallReport := false }).raise (.lateCompletion p k)

/-- A stray completion: counted and reported (R76). -/
def State.strayCompletion (s : State) (p : PortId) (k : SlotId) : State :=
  (s.updPort p Port.countStray).raise (.strayCompletion p k)

/-- A completion for slot k of port p, by the state of the port and of the slot (R76, R77). A slot that it frees gives the arbiter, and
an access that it ends may give dispatch, something to do in the same event (R42, R82). -/
def State.complete (s : State) (p : PortId) (k : SlotId) (st : CompletionStatus) (data : List Word) : State :=
  if (s.port p).state = .resetting then s.updPort p Port.countLate
  else
    match (s.port p).slot k with
    | .issued h _ _ => (s.deliver p k h st data).followUp
    | .lingering => (s.lateCompletion p k).followUp
    | .free => s.strayCompletion p k

/-- COMPLETION: a completion arrives on the segment bus of port p and names slot k (R76). -/
def execCompletion (p : PortId) (k : SlotId) (st : CompletionStatus) (data : List Word) (s : State) :
    Host.Outcome State Fault Refusal :=
  .next (s.unlessReset fun s => s.complete p k st data)

/-- The holder of slot k is told that its access timed out (R61, R79, R105, R124, R184). -/
def State.timeoutHolder (s : State) (p : PortId) (h : Holder) : State :=
  match h with
  | .tracking i =>
    match s.entry? i with
    | some e => s.endEntry e (.fault .timeout)
    | none => s
  | .upkeep => s.timeoutUpkeep p
  | .copy c half => s.timeoutCopy c half
  | .boot => s.timeoutBoot

/-- A slot becomes LINGERING by a timeout, which is counted (R79). -/
def Port.linger (p : Port) (k : SlotId) : Port := p.countTimeout.setSlot k .lingering

/-- ISSUE_TIMER_EXPIRY: the issue timer of an ISSUED slot has run out; the timeout is counted, the slot lingers, the holder is told, the
stall test is made, in this order (R79). A timer with time left does not expire (log 3). -/
def execIssueTimerExpiry (p : PortId) (k : SlotId) (s : State) : Host.Outcome State Fault Refusal :=
  .next (match (s.port p).slot k with
    | .issued h _ 0 => (((s.updPort p fun q => q.linger k).timeoutHolder p h).stallTest p).followUp
    | _ => s)

end Sys2Proof.Machine
end

