-- ==== Sys2Proof/Machine/Management.lean ====
section
/-! DEFINITION. The commands of the Management Unit, the Notice Unit and the Cause Record (chapters 8, 9, 11): NOTICE MASK, MANAGERS
SET, COUNTERS READ, TRACK READ, IDENT READ, CAUSE READ, and a command code that names no command. -/

namespace Sys2Proof.Machine

/-- NOTICE MASK in the Notice Unit: bits 1 to 14 name the kinds; any other bit is refused RANGE (R156, 12.3). -/
def noticeMaskAct : Act := fun f s =>
  if zeroUnder (f.word 0) 0xFFFF8001 then ({ s with nu := { s.nu with mask := field (f.word 0) 0 15 } }, .ok [])
  else unchanged (.refused .range) s

/-- NOTICE MASK. -/
def execNoticeMask (f : MgmtFrame) (s : State) : Host.Outcome State Fault Refusal :=
  .next (s.manage .noticeMask 1 f noticeMaskAct)

/-- MANAGERS SET in the Management Unit: a set without the requester of the command is refused RANGE (R164). -/
def managersSetAct : Act := fun f s =>
  if indexOnly (f.word 0) && bit (f.word 0) f.requester.val then ({ s with managers := field (f.word 0) 0 8 }, .ok [])
  else unchanged (.refused .range) s

/-- MANAGERS SET. -/
def execManagersSet (f : MgmtFrame) (s : State) : Host.Outcome State Fault Refusal :=
  .next (s.manage .managersSet 1 f managersSetAct)

/-! ## COUNTERS READ (R165, R166) -/

/-- What a COUNTERS READ selects. -/
inductive CounterBlock where
  | port (p : PortId)
  | link
  deriving DecidableEq, Repr

/-- The selector: 0 to 3 for a port, 80H for the link (12.3). -/
def counterSelector (w : Word) : Option CounterBlock :=
  if field w 0 8 = 0x80 then some .link else (indexBelow 4 w).map .port

/-- The counters of a port are cleared; the row counter, the pending upkeep and the upkeep in flight are not (R166). -/
def Port.clearCounters (p : Port) : Port :=
  { p with
    counters := .zero
    upkeep := { p.upkeep with done := 0, missed := 0, suppressed := 0, failed := 0, lastFailedRow := none } }

/-- The counters of the link are cleared (R166). -/
def LinkInterface.clearCounters (l : LinkInterface) : LinkInterface := { l with checkErrors := 0, overruns := 0, malformed := 0 }

/-- The counter block of a selector (R165). -/
def State.counterBlock (s : State) : CounterBlock → List Word
  | .port p => (s.port p).counterBlock
  | .link => s.li.counterBlock

/-- The counters of the selected block are cleared (R166). -/
def State.clearBlock (s : State) : CounterBlock → State
  | .port p => s.updPort p Port.clearCounters
  | .link => { s with li := s.li.clearCounters }

/-- COUNTERS READ in the Management Unit: the block is read, then cleared if bit 8 is set (R165, R166, 12.3). -/
def countersReadAct : Act := fun f s =>
  match counterSelector (f.word 0) with
  | none => unchanged (.refused .badIndex) s
  | some b =>
    if !zeroUnder (f.word 0) 0xFFFFFE00 then unchanged (.refused .range) s
    else if bit (f.word 0) 8 then (s.clearBlock b, .ok (s.counterBlock b))
    else unchanged (.ok (s.counterBlock b)) s

/-- COUNTERS READ. -/
def execCountersRead (f : MgmtFrame) (s : State) : Host.Outcome State Fault Refusal :=
  .next (s.manage .countersRead 1 f countersReadAct)

/-! ## TRACK READ, IDENT READ, CAUSE READ (R167, R168, R189) -/

/-- The words of tracking entry i: its image with its dispatch rank, or one word 0 for FREE (R167, 12.3). -/
def State.trackWords (s : State) (i : TrackIdx) : List Word :=
  match s.entry? i with
  | some e => s.trackImage e (s.rankOf i)
  | none => [0]

/-- TRACK READ in the Management Unit (R167). -/
def trackReadAct : Act := fun f s =>
  match indexBelow 16 (f.word 0) with
  | none => unchanged (.refused .badIndex) s
  | some i => if indexOnly (f.word 0) then unchanged (.ok (s.trackWords i)) s else unchanged (.refused .range) s

/-- TRACK READ. -/
def execTrackRead (f : MgmtFrame) (s : State) : Host.Outcome State Fault Refusal :=
  .next (s.manage .trackRead 1 f trackReadAct)

/-- IDENT READ in the Management Unit: family code, part code, revision level (R168). -/
def identReadAct : Act := fun _ s => unchanged (.ok [Config.identWord, Config.revisionWord]) s

/-- IDENT READ. -/
def execIdentRead (f : MgmtFrame) (s : State) : Host.Outcome State Fault Refusal :=
  .next (s.manage .identRead 0 f identReadAct)

/-- CAUSE READ in the Cause Record: its five fields (R189). -/
def causeReadAct : Act := fun _ s => unchanged (.ok s.cause.words) s

/-- CAUSE READ. -/
def execCauseRead (f : MgmtFrame) (s : State) : Host.Outcome State Fault Refusal :=
  .next (s.manage .causeRead 0 f causeReadAct)

/-! ## A command code that names no command (R159) -/

/-- UNKNOWN_COMMAND: received, charged, and refused by the first intake check that fails, UNKNOWN being the last (R159). -/
def execUnknownCommand (_code : Byte) (f : MgmtFrame) (s : State) : Host.Outcome State Fault Refusal :=
  .next (s.receiveRequest .management f.malformed fun t => t.refuseMgmt f (t.unknownRefusal f))

end Sys2Proof.Machine
end

