-- ==== Sys2Proof/Machine/Modes.lean ====
section
/-! DEFINITION. The Mode Controller (chapter 7): QUIESCE, RESUME, STOP, MODE STATUS, SUPERVISION SET, QUIET_REACHED, the expiry of
the supervision timer. -/

namespace Sys2Proof.Machine

/-- RUN becomes QUIESCING, and the Copy Engine is quenched; the test of the quiesce conditions follows at the end of the event
(State.followUp), which takes the mode on to QUIET when they hold (R136; log 2). -/
def State.enterQuiescing (s : State) (cause : ModeCause) : State := (s.changeMode .quiescing cause).quench

/-- QUIESCE in the Mode Controller (R136). Management is not taken in BOOTING; there it is refused MODE (log 10). -/
def quiesceAct : Act := fun _ s =>
  match s.mc.mode with
  | .run => (s.enterQuiescing .quiesce, .done)
  | .quiescing => unchanged (.ok []) s
  | .quiet => unchanged (.ok []) s
  | .stop => unchanged (.refused .mode) s
  | .booting => unchanged (.refused .mode) s

/-- QUIESCE. -/
def execQuiesce (f : MgmtFrame) (s : State) : Host.Outcome State Fault Refusal :=
  .next (s.manage .quiesce 0 f quiesceAct)

/-- QUIET_REACHED: the quiesce conditions hold in QUIESCING; the mode becomes QUIET, and with stop-on-quiet set STOP in the same
event (R137, R138). -/
def execQuietReached (s : State) : Host.Outcome State Fault Refusal :=
  .next (if s.mc.quietDue then s.reachQuiet.followUp else s)

/-- RESUME in the Mode Controller: never refused for its mode (R140). -/
def resumeAct : Act := fun _ s =>
  match s.mc.mode with
  | .run => unchanged (.ok []) s
  | .quiescing => ((s.setStopOnQuiet false).changeMode .run .resume, .ok [])
  | .quiet => (s.changeMode .run .resume, .ok [])
  | .stop => (s.leaveStop .resume, .done)
  | .booting => unchanged (.ok []) s

/-- RESUME. -/
def execResume (f : MgmtFrame) (s : State) : Host.Outcome State Fault Refusal :=
  .next (s.manage .resume 0 f resumeAct)

/-- STOP in the Mode Controller (R139). In BOOTING it is refused MODE (log 10). -/
def stopAct : Act := fun _ s =>
  match s.mc.mode with
  | .run => unchanged (.refused .mode) s
  | .quiescing => unchanged (.refused .mode) s
  | .quiet => (s.enterStop .stop, .ok [])
  | .stop => unchanged (.ok []) s
  | .booting => unchanged (.refused .mode) s

/-- STOP. -/
def execStop (f : MgmtFrame) (s : State) : Host.Outcome State Fault Refusal :=
  .next (s.manage .stop 0 f stopAct)

/-- MODE STATUS in the Mode Controller: the image (R147). -/
def modeStatusAct : Act := fun _ s => unchanged (.ok s.modeImage) s

/-- MODE STATUS. -/
def execModeStatus (f : MgmtFrame) (s : State) : Host.Outcome State Fault Refusal :=
  .next (s.manage .modeStatus 0 f modeStatusAct)

/-- SUPERVISION SET in the Mode Controller: both settings are stored, and the timer restarts with the new period or becomes OFF
(R146). -/
def supervisionSetAct : Act := fun f s =>
  match supervisionWord (f.word 0) with
  | none => unchanged (.refused .range) s
  | some (period, wake) =>
    ({ s with mc := { s.mc with period := period, wakeOnRequest := wake }.restart }, .ok [])

/-- SUPERVISION SET. -/
def execSupervisionSet (f : MgmtFrame) (s : State) : Host.Outcome State Fault Refusal :=
  .next (s.manage .supervisionSet 1 f supervisionSetAct)

/-- The supervision timer restarts (R144, R145). -/
def State.restartSupervision (s : State) : State := { s with mc := s.mc.restart }

/-- What an expiry of the supervision timer does by the mode at expiry, and to the timer (R145). That an expiry in QUIET restarts the
timer is DEDUCED, safe, log 15. -/
def State.superviseByMode (s : State) : State :=
  match s.mc.mode with
  | .run => ((s.enterQuiescing .supervision).restartSupervision).followUp
  | .quiescing => (if s.mc.quiesceConditions then s else s.setStopOnQuiet true).restartSupervision
  | .quiet => (s.enterStop .supervision).restartSupervision
  | .stop => { s with mc := { s.mc with timer := .expired } }
  | .booting => s.restartSupervision

/-- SUPERVISION_TIMER_EXPIRY: the period has run out; SUPERVISION_EXPIRED is raised, then the mode escalates, then the timer restarts,
except in STOP; in RUN the mode passes on to QUIET when the quiesce conditions hold (R145). A timer with time left does not expire, so
that a frame or a SUPERVISION SET taken first leaves no expiry (R148; log 3). A QUIESCE command taken first is such a frame, and R148's row on
it ("the expiry then sets stop-on-quiet, or stops the part") conflicts with R144 and its first row: the restart wins, and the row holds of
the next expiry that runs its time out; DESIGN CHOICE, unsafe, log 19. -/
def execSupervisionTimerExpiry (s : State) : Host.Outcome State Fault Refusal :=
  .next (match s.mc.timer with
    | .running 0 => (s.raise .supervisionExpired).superviseByMode
    | _ => s)

end Sys2Proof.Machine
end

