-- ==== Sys2Proof/Machine/PortEvents.lean ====
section
/-! DEFINITION. The issues of a port's arbiter and the events of its timers and lines that belong to other blocks: ISSUE, UPKEEP_ISSUE,
COPY_HALF_ISSUE, UPKEEP_EXPIRY, PACE_LINE_CHANGE. -/

namespace Sys2Proof.Machine

/-- ISSUE: the arbiter of port p issues the upstream entry it has chosen in the head free slot (R54, R82 to R85). -/
def execIssue (p : PortId) (s : State) : Host.Outcome State Fault Refusal :=
  .next (match s.arbiterChoice p, (s.port p).freeOrder with
    | some (.upstream e), k :: _ => (s.issueEntry p e k).followUp
    | _, _ => s)

/-- UPKEEP_ISSUE: the arbiter of port p issues the pending or the WAITING upkeep (R83, R104). -/
def execUpkeepIssue (p : PortId) (s : State) : Host.Outcome State Fault Refusal :=
  .next (match s.arbiterChoice p, (s.port p).freeOrder with
    | some .upkeep, k :: _ => (s.updPort p fun q => q.issueUpkeep k).followUp
    | _, _ => s)

/-- COPY_HALF_ISSUE: the arbiter of port p issues the copy half it has chosen (R83, R84, R117). -/
def execCopyHalfIssue (p : PortId) (s : State) : Host.Outcome State Fault Refusal :=
  .next (match s.arbiterChoice p, (s.port p).freeOrder with
    | some (.copy c), k :: _ =>
      match (s.channel c).current with
      | some cur => (s.issueHalf c cur p k).followUp
      | none => s
    | _, _ => s)

/-- UPKEEP_EXPIRY: the interval timer has run out; it acts by the port state and restarts at once carrying its remainder, and the
arbiter is considered (R100, R101). A timer with time left does not expire (log 3). -/
def execUpkeepExpiry (p : PortId) (s : State) : Host.Outcome State Fault Refusal :=
  .next (match (s.port p).upkeep.timer with
    | some ⟨0, r⟩ => (s.updPort p fun q => q.upkeepExpiry.nextInterval r).followUp
    | _ => s)

/-- PACE_LINE_CHANGE: the pace line of port p takes a level; from deasserted to asserted is an edge, and a half that is offered now may
be issued in this event (R122, R123). -/
def execPaceLineChange (p : PortId) (level : Bool) (s : State) : Host.Outcome State Fault Refusal :=
  .next (s.setPace p level).followUp

end Sys2Proof.Machine
end

