-- ==== Sys2Proof/Machine/Dispatch.lean ====
section
/-! DEFINITION. What each command does: one arm for each row of spec/opcode_table.json, in the order of the table. -/

namespace Sys2Proof.Machine

/-- The effect of a command on everything but the queue of waiting commands. -/
def exec (i : Instr) (s : State) : Host.Outcome State Fault Refusal :=
  match i with
  | .powerOn => Sys2Proof.Machine.execPowerOn s
  | .pinReset => Sys2Proof.Machine.execPinReset s
  | .resetnDeasserted => Sys2Proof.Machine.execResetnDeasserted s
  | .fill => Sys2Proof.Machine.execFill s
  | .frameCheckFailed => Sys2Proof.Machine.execFrameCheckFailed s
  | .idle malformed => Sys2Proof.Machine.execIdle malformed s
  | .linkReset malformed => Sys2Proof.Machine.execLinkReset malformed s
  | .dataRequest f => Sys2Proof.Machine.execDataRequest f s
  | .unknownCommand code f => Sys2Proof.Machine.execUnknownCommand code f s
  | .windowLoad f => Sys2Proof.Machine.execWindowLoad f s
  | .windowReplace f => Sys2Proof.Machine.execWindowReplace f s
  | .windowClose f => Sys2Proof.Machine.execWindowClose f s
  | .windowRead f => Sys2Proof.Machine.execWindowRead f s
  | .windowFind f => Sys2Proof.Machine.execWindowFind f s
  | .portConfigure f => Sys2Proof.Machine.execPortConfigure f s
  | .portEnable f => Sys2Proof.Machine.execPortEnable f s
  | .portDisable f => Sys2Proof.Machine.execPortDisable f s
  | .portReset f => Sys2Proof.Machine.execPortReset f s
  | .portStatus f => Sys2Proof.Machine.execPortStatus f s
  | .channelLoad f => Sys2Proof.Machine.execChannelLoad f s
  | .channelAbort f => Sys2Proof.Machine.execChannelAbort f s
  | .channelResume f => Sys2Proof.Machine.execChannelResume f s
  | .channelClear f => Sys2Proof.Machine.execChannelClear f s
  | .channelStatus f => Sys2Proof.Machine.execChannelStatus f s
  | .engineStart f => Sys2Proof.Machine.execEngineStart f s
  | .engineQuench f => Sys2Proof.Machine.execEngineQuench f s
  | .quiesce f => Sys2Proof.Machine.execQuiesce f s
  | .resume f => Sys2Proof.Machine.execResume f s
  | .stop f => Sys2Proof.Machine.execStop f s
  | .modeStatus f => Sys2Proof.Machine.execModeStatus f s
  | .supervisionSet f => Sys2Proof.Machine.execSupervisionSet f s
  | .noticeMask f => Sys2Proof.Machine.execNoticeMask f s
  | .managersSet f => Sys2Proof.Machine.execManagersSet f s
  | .countersRead f => Sys2Proof.Machine.execCountersRead f s
  | .trackRead f => Sys2Proof.Machine.execTrackRead f s
  | .identRead f => Sys2Proof.Machine.execIdentRead f s
  | .causeRead f => Sys2Proof.Machine.execCauseRead f s
  | .dispatch => Sys2Proof.Machine.execDispatch s
  | .issue p => Sys2Proof.Machine.execIssue p s
  | .upkeepIssue p => Sys2Proof.Machine.execUpkeepIssue p s
  | .copyHalfIssue p => Sys2Proof.Machine.execCopyHalfIssue p s
  | .bootReadIssue => Sys2Proof.Machine.execBootReadIssue s
  | .holdTaken p => Sys2Proof.Machine.execHoldTaken p s
  | .portBecomesHeld p => Sys2Proof.Machine.execPortBecomesHeld p s
  | .portBecomesStopped p => Sys2Proof.Machine.execPortBecomesStopped p s
  | .quietReached => Sys2Proof.Machine.execQuietReached s
  | .installReplacement => Sys2Proof.Machine.execInstallReplacement s
  | .installClose => Sys2Proof.Machine.execInstallClose s
  | .completion p k st data => Sys2Proof.Machine.execCompletion p k st data s
  | .issueTimerExpiry p k => Sys2Proof.Machine.execIssueTimerExpiry p k s
  | .holdRequestAsserted p => Sys2Proof.Machine.execHoldRequestAsserted p s
  | .holdRequestDeasserted p => Sys2Proof.Machine.execHoldRequestDeasserted p s
  | .holdLimitExpiry p => Sys2Proof.Machine.execHoldLimitExpiry p s
  | .resetPulseExpiry p => Sys2Proof.Machine.execResetPulseExpiry p s
  | .paceLineChange p level => Sys2Proof.Machine.execPaceLineChange p level s
  | .upkeepExpiry p => Sys2Proof.Machine.execUpkeepExpiry p s
  | .drainTimerExpiry => Sys2Proof.Machine.execDrainTimerExpiry s
  | .supervisionTimerExpiry => Sys2Proof.Machine.execSupervisionTimerExpiry s
  | .silenceTimerExpiry => Sys2Proof.Machine.execSilenceTimerExpiry s
  | .takeCredit => Sys2Proof.Machine.execTakeCredit s
  | .takeNotice => Sys2Proof.Machine.execTakeNotice s
  | .takeResponse => Sys2Proof.Machine.execTakeResponse s
  | .responseSent => Sys2Proof.Machine.execResponseSent s
  | .creditSent => Sys2Proof.Machine.execCreditSent s
  | .noticeSent => Sys2Proof.Machine.execNoticeSent s

end Sys2Proof.Machine
end

