-- ==== Sys2Proof/Machine/OwnSteps.lean ====
section
/-! DEFINITION. What the part does when no command waits: its own next step that is due, in a fixed order, and otherwise 1 µs of the
timebase (log 1, log 2). -/

namespace Sys2Proof.Machine

/-- A command, when its condition holds. -/
def whenDue (due : Bool) (c : Instr) : List Instr := if due then [c] else []

/-- The install that is due (R23, R24). -/
def State.dueInstall (s : State) : List Instr :=
  match s.installDue with
  | some (_, .replacement _) => [.installReplacement]
  | some (_, .close) => [.installClose]
  | none => []

/-- The end of the settle of port p, when no slot is ISSUED (R88, R91). -/
def State.dueSettle (s : State) (p : PortId) : List Instr :=
  match (s.port p).state with
  | .settling .held => whenDue (!(s.port p).anyIssued) (.portBecomesHeld p)
  | .settling .stopped => whenDue (!(s.port p).anyIssued) (.portBecomesStopped p)
  | _ => []

/-- What the arbiter of port p serves (R82, R83). -/
def State.dueIssue (s : State) (p : PortId) : List Instr :=
  match s.arbiterChoice p with
  | some .upkeep => [.upkeepIssue p]
  | some .hold => [.holdTaken p]
  | some .boot => [.bootReadIssue]
  | some (.copy _) => [.copyHalfIssue p]
  | some (.upstream _) => [.issue p]
  | none => []

/-- What the free transmitter takes (R178). -/
def State.dueTake (s : State) : List Instr :=
  match s.transmitChoice with
  | some .credit => [.takeCredit]
  | some .notice => [.takeNotice]
  | some .response => [.takeResponse]
  | none => []

/-- The steps of the part's blocks that are due now, in the order in which this model takes them. -/
def State.dueSteps (s : State) : List Instr :=
  s.dueInstall
    ++ (List.finRange 4).flatMap s.dueSettle
    ++ whenDue s.mc.quietDue .quietReached
    ++ whenDue (s.oldestDispatchable.isSome && s.freeIndex?.isSome) .dispatch
    ++ (List.finRange 4).flatMap s.dueIssue
    ++ s.dueTake

/-- The issue timer of a slot has run out (R79). -/
def Slot.expired : Slot → Bool
  | .issued _ _ t => t == 0
  | .free => false
  | .lingering => false

/-- The expiries of port p that are due (R79, R89, R93, R100). -/
def State.duePortExpiries (s : State) (p : PortId) : List Instr :=
  let q := s.port p
  (List.finRange 4).flatMap (fun k => whenDue (q.slot k).expired (.issueTimerExpiry p k))
    ++ whenDue (q.state == .held && q.holdTimer == some 0) (.holdLimitExpiry p)
    ++ whenDue (q.state == .resetting && q.pulse.any fun u => u.timer == 0) (.resetPulseExpiry p)
    ++ whenDue (q.upkeep.timer.any fun t => t.left == 0) (.upkeepExpiry p)

/-- The drain timer has run out on a window that still drains (R26, R27). -/
def State.drainExpired (s : State) : Bool :=
  s.deferred.any fun d => d.timer == 0 && (s.window d.index).state == .draining

/-- The end of a frame whose last byte has left the part (R178). -/
def State.dueSent (s : State) : List Instr :=
  match s.li.transmission with
  | some ⟨.response _, _, 0⟩ => [.responseSent]
  | some ⟨.notice _ _, _, 0⟩ => [.noticeSent]
  | some ⟨.credit, _, 0⟩ => [.creditSent]
  | _ => []

/-- The expiries and ends of transmission that are due now, in the order in which this model takes them. -/
def State.dueExpiries (s : State) : List Instr :=
  (List.finRange 4).flatMap s.duePortExpiries
    ++ whenDue s.drainExpired .drainTimerExpiry
    ++ whenDue (s.mc.timer == .running 0) .supervisionTimerExpiry
    ++ whenDue (s.li.up && s.li.silence == some 0) .silenceTimerExpiry
    ++ s.dueSent

/-- The part's own next step, if one is due (log 2). -/
def State.ownStep (s : State) : Option Instr := (s.dueSteps ++ s.dueExpiries).head?

/-! ## The timebase -/

/-- 1 µs passes for a slot (R78). -/
def Slot.tick : Slot → Slot
  | .issued h c t => .issued h c (t - 1)
  | .free => .free
  | .lingering => .lingering

/-- 1 µs passes for a port: its issue timers, hold limit timer, pulse timer and interval timer (R78, R89, R92, R100). -/
def Port.tick (p : Port) : Port :=
  { p with
    slots := tabulate fun k => p.slots[k].tick
    holdTimer := p.holdTimer.map fun t => t - 1
    pulse := p.pulse.map fun u => { u with timer := u.timer - 1 }
    upkeep := { p.upkeep with timer := p.upkeep.timer.map fun t => { t with left := t.left - 1 } } }

/-- 1 µs passes for the supervision timer (R144). -/
def SupervisionTimer.tick : SupervisionTimer → SupervisionTimer
  | .running t => .running (t - 1)
  | .off => .off
  | .expired => .expired

/-- 1 µs passes for the link: the silence timer, and the bytes of the frame in transmission (R173, R178; log 12). -/
def LinkInterface.tick (l : LinkInterface) : LinkInterface :=
  { l with
    silence := l.silence.map fun t => t - 1
    transmission := l.transmission.map fun t => { t with bytesLeft := t.bytesLeft - Config.bytesPerMicro } }

/-- 1 µs of the timebase passes: every running timer has 1 µs less to run (log 2). -/
def State.tick (s : State) : State :=
  { s.mapPorts Port.tick with
    deferred := s.deferred.map fun d => { d with timer := d.timer - 1 }
    mc := { s.mc with timer := s.mc.timer.tick }
    li := s.li.tick }

/-- What the part does when no command waits (log 2). -/
def State.idle (s : State) : Host.Outcome State Fault Refusal :=
  match s.ownStep with
  | some c => exec c s
  | none => .next s.tick

end Sys2Proof.Machine
end

