-- ==== Sys2Proof/WellFormed.lean ====
section
/-! DEFINITION. Which commands can stand for an arrival the spec describes. A command that is not well-formed still has a
meaning (exec is total); these checks say what the outside world can send. -/

namespace Sys2Proof

/-- The command codes of 12.3. -/
def commandCodes : List Byte :=
  [0x10, 0x11, 0x12, 0x13, 0x14, 0x20, 0x21, 0x22, 0x23, 0x24, 0x30, 0x31, 0x32, 0x33, 0x34, 0x35, 0x36,
   0x40, 0x41, 0x42, 0x43, 0x44, 0x50, 0x60, 0x61, 0x62, 0x63, 0x70]

/-- A frame that is not malformed has a length byte, at most 255, equal to its byte count: 10 bytes before the payload of
a data REQUEST and 2 after it leave room for 60 words (R190, 12.2). A longer frame is malformed. -/
def DataFrame.fits (f : DataFrame) : Bool := f.malformed || f.payload.length ≤ 60

/-- The same for a management REQUEST: 6 bytes before the operands and 2 after leave room for 61 words (R190). -/
def MgmtFrame.fits (f : MgmtFrame) : Bool := f.malformed || f.operands.length ≤ 61

/-- A completion carries data words only with OK (R56). -/
def completionFits (st : CompletionStatus) (data : List Word) : Bool :=
  match st with
  | .ok => true
  | .error => data.isEmpty
  | .retry => data.isEmpty

/-- The checks, for every command. -/
def WellFormed : Instr → Bool
  | .powerOn => true
  | .pinReset => true
  | .resetnDeasserted => true
  | .fill => true
  | .frameCheckFailed => true
  | .idle _ => true
  | .linkReset _ => true
  | .dataRequest f => f.fits
  | .unknownCommand code f => !commandCodes.contains code && f.fits
  | .windowLoad f => f.fits
  | .windowReplace f => f.fits
  | .windowClose f => f.fits
  | .windowRead f => f.fits
  | .windowFind f => f.fits
  | .portConfigure f => f.fits
  | .portEnable f => f.fits
  | .portDisable f => f.fits
  | .portReset f => f.fits
  | .portStatus f => f.fits
  | .channelLoad f => f.fits
  | .channelAbort f => f.fits
  | .channelResume f => f.fits
  | .channelClear f => f.fits
  | .channelStatus f => f.fits
  | .engineStart f => f.fits
  | .engineQuench f => f.fits
  | .quiesce f => f.fits
  | .resume f => f.fits
  | .stop f => f.fits
  | .modeStatus f => f.fits
  | .supervisionSet f => f.fits
  | .noticeMask f => f.fits
  | .managersSet f => f.fits
  | .countersRead f => f.fits
  | .trackRead f => f.fits
  | .identRead f => f.fits
  | .causeRead f => f.fits
  | .dispatch => true
  | .issue _ => true
  | .upkeepIssue _ => true
  | .copyHalfIssue _ => true
  | .bootReadIssue => true
  | .holdTaken _ => true
  | .portBecomesHeld _ => true
  | .portBecomesStopped _ => true
  | .quietReached => true
  | .installReplacement => true
  | .installClose => true
  | .completion _ _ st data => completionFits st data
  | .issueTimerExpiry _ _ => true
  | .holdRequestAsserted _ => true
  | .holdRequestDeasserted _ => true
  | .holdLimitExpiry _ => true
  | .resetPulseExpiry _ => true
  | .paceLineChange _ _ => true
  | .upkeepExpiry _ => true
  | .drainTimerExpiry => true
  | .supervisionTimerExpiry => true
  | .silenceTimerExpiry => true
  | .takeCredit => true
  | .takeNotice => true
  | .takeResponse => true
  | .responseSent => true
  | .creditSent => true
  | .noticeSent => true

end Sys2Proof
end

