-- ==== Sys2Proof/Safety.lean ====
section
/-! DEFINITION. The vocabulary of the statements: when a command is received and accepted, the part of the next state that every
received frame shares, and the invariants of the part. -/

namespace Sys2Proof.Machine

/-! ## Received frames (R172 to R175) -/

/-- The state after a frame that passes the check has been received: the link is UP, its silence timer and the supervision timer
restart, the failure run is 0, and a link that was DOWN raises LINK_RESTORED (R172, R173, R174, R144). -/
def State.received (s : State) : State :=
  { s with
    nu := if s.li.up then s.nu else s.nu.raise .linkRestored
    mc := { s.mc with timer := if s.mc.period = 0 then .off else .running (s.mc.period.toNat * 4000) }
    li := { s.li with up := true, silence := some 64, failureRun := 0 } }

/-- A REQUEST of the pool was received without credit: discarded, counted and reported (R175). -/
def State.receivedOverrun (s : State) (pool : Pool) : State :=
  { s.received with
    li := { s.received.li with overruns := s.li.overruns + 1 }
    nu := s.received.nu.raise (.creditOverrun pool) }

/-- A data REQUEST was received and charged (R174, R175). -/
def State.receivedData (s : State) (f : DataFrame) : State :=
  { s.received with
    li := { s.received.li with
      dataCredit := s.li.dataCredit - 1
      malformed := if f.malformed then s.li.malformed + 1 else s.li.malformed } }

/-- A management REQUEST was received and charged (R174, R175). -/
def State.receivedMgmt (s : State) (f : MgmtFrame) : State :=
  { s.received with
    li := { s.received.li with
      mgmtCredit := s.li.mgmtCredit - 1
      malformed := if f.malformed then s.li.malformed + 1 else s.li.malformed } }

/-- A RESPONSE has been placed at the tail of the response queue (R177). -/
def State.responded (s : State) (r : Response) : State := { s with li := { s.li with responses := s.li.responses ++ [r] } }

end Sys2Proof.Machine

namespace Sys2Proof

open Sys2Proof.Machine

/-! ## The bytes of a REQUEST (12.2, 12.3) -/

/-- The bytes of a data REQUEST before its check field (12.2). -/
def DataFrame.bytes (f : DataFrame) : List Byte :=
  [1, byte (12 + 4 * f.payload.length), byte (f.requester.val * 8), byte f.tag.val, f.kindCode, f.length] ++ bytesOf f.address
    ++ f.payload.flatMap bytesOf

/-- The bytes of a management REQUEST before its check field, with its command code (12.3). -/
def MgmtFrame.bytes (f : MgmtFrame) (code : Byte) : List Byte :=
  [1, byte (8 + 4 * f.operands.length), byte (0x40 + f.requester.val * 8), byte f.tag.val, code, 0]
    ++ f.operands.flatMap bytesOf

end Sys2Proof

namespace Sys2Proof.Machine

/-! ## Commands -/

/-- The pool of a command that is a REQUEST frame. -/
def requestPool : Instr → Option Pool
  | .dataRequest _ => some .data
  | .unknownCommand _ _ => some .management
  | .windowLoad _ => some .management
  | .windowReplace _ => some .management
  | .windowClose _ => some .management
  | .windowRead _ => some .management
  | .windowFind _ => some .management
  | .portConfigure _ => some .management
  | .portEnable _ => some .management
  | .portDisable _ => some .management
  | .portReset _ => some .management
  | .portStatus _ => some .management
  | .channelLoad _ => some .management
  | .channelAbort _ => some .management
  | .channelResume _ => some .management
  | .channelClear _ => some .management
  | .channelStatus _ => some .management
  | .engineStart _ => some .management
  | .engineQuench _ => some .management
  | .quiesce _ => some .management
  | .resume _ => some .management
  | .stop _ => some .management
  | .modeStatus _ => some .management
  | .supervisionSet _ => some .management
  | .noticeMask _ => some .management
  | .managersSet _ => some .management
  | .countersRead _ => some .management
  | .trackRead _ => some .management
  | .identRead _ => some .management
  | .causeRead _ => some .management
  | _ => none

/-- A management command's frame with the number of operand words it requires (12.3); none for a command code that names no
command. -/
def managementFrame : Instr → Option (MgmtFrame × Option Nat)
  | .unknownCommand _ f => some (f, none)
  | .windowLoad f => some (f, some 4)
  | .windowReplace f => some (f, some 5)
  | .windowClose f => some (f, some 1)
  | .windowRead f => some (f, some 1)
  | .windowFind f => some (f, some 1)
  | .portConfigure f => some (f, some 3)
  | .portEnable f => some (f, some 1)
  | .portDisable f => some (f, some 1)
  | .portReset f => some (f, some 1)
  | .portStatus f => some (f, some 1)
  | .channelLoad f => some (f, some 4)
  | .channelAbort f => some (f, some 1)
  | .channelResume f => some (f, some 1)
  | .channelClear f => some (f, some 1)
  | .channelStatus f => some (f, some 1)
  | .engineStart f => some (f, some 0)
  | .engineQuench f => some (f, some 0)
  | .quiesce f => some (f, some 0)
  | .resume f => some (f, some 0)
  | .stop f => some (f, some 0)
  | .modeStatus f => some (f, some 0)
  | .supervisionSet f => some (f, some 1)
  | .noticeMask f => some (f, some 1)
  | .managersSet f => some (f, some 1)
  | .countersRead f => some (f, some 1)
  | .trackRead f => some (f, some 1)
  | .identRead f => some (f, some 0)
  | .causeRead f => some (f, some 0)
  | _ => none

/-- A command whose first operand word names one record and nothing else: its frame, its name, its operand words, and the number of
records (12.3). -/
def indexCommand : Instr → Option (MgmtFrame × Command × Nat × Nat)
  | .windowRead f => some (f, .windowRead, 1, 32)
  | .portConfigure f => some (f, .portConfigure, 3, 4)
  | .portEnable f => some (f, .portEnable, 1, 4)
  | .portDisable f => some (f, .portDisable, 1, 4)
  | .portReset f => some (f, .portReset, 1, 4)
  | .portStatus f => some (f, .portStatus, 1, 4)
  | .channelAbort f => some (f, .channelAbort, 1, 2)
  | .channelResume f => some (f, .channelResume, 1, 2)
  | .channelClear f => some (f, .channelClear, 1, 2)
  | .channelStatus f => some (f, .channelStatus, 1, 2)
  | .trackRead f => some (f, .trackRead, 1, 16)
  | _ => none

/-- A management command passes the credit test and every intake check (R159, R175). The last clause is an invariant of the part:
the pair of a placed command is in the tag set (R33). -/
structure CommandAccepted (s : State) (f : MgmtFrame) (words : Nat) : Prop where
  listening : s.resetn = false
  credit : 0 < s.li.mgmtCredit
  wellFormed : f.malformed = false
  manager : s.managers.getLsbD f.requester.val = true
  freshPair : f.pair ∉ s.tags
  operands : f.operands.length = words
  freshEntry : ∀ e ∈ s.mgmtQueue, (e.requester, e.tag) ≠ f.pair

/-- The state in which the owning block leaves what it does not touch, when a command is accepted and answered with r in the event in
which it is taken (R160). -/
def State.answered (s : State) (f : MgmtFrame) (c : Command) (r : Response) : State :=
  { (s.receivedMgmt f).responded r with
    tags := s.tags ++ [f.pair]
    mgmtQueue := s.mgmtQueue ++ [{ requester := f.requester, tag := f.tag, command := c, phase := .answered }] }

/-- The same when the command is answered OK with data (R160). -/
def State.answeredOk (s : State) (f : MgmtFrame) (c : Command) (data : List Word) : State :=
  s.answered f c (okResponse f.requester f.tag .management data)

/-- The same when the owning block refuses the command (R160, R163). -/
def State.answeredRefused (s : State) (f : MgmtFrame) (c : Command) (reason : Reason) : State :=
  s.answered f c (refusal f.requester f.tag .management reason false)

/-- The same when the answer is deferred (R161). -/
def State.answerDeferred (s : State) (f : MgmtFrame) (c : Command) : State :=
  { s.receivedMgmt f with
    tags := s.tags ++ [f.pair]
    mgmtQueue := s.mgmtQueue ++ [{ requester := f.requester, tag := f.tag, command := c, phase := .deferred }] }

/-- The management entry of the deferred window operation becomes ANSWERED (R161). -/
def DeferredOp.answeredEntry (d : DeferredOp) (e : MgmtEntry) : MgmtEntry :=
  if (e.requester, e.tag) = (d.requester, d.tag) ∧ e.phase = .deferred then { e with phase := .answered } else e

/-! ## Slots (R78, R79, R98) -/

/-- Slot k of port p is ISSUED with holder h, the part listens, and the port is not RESETTING (R76, R78). -/
structure HeldSlot (s : State) (p : PortId) (k : SlotId) (h : Holder) : Prop where
  listening : s.resetn = false
  notResetting : (s.port p).state ≠ .resetting
  slot : ∃ cmd t, (s.port p).slot k = .issued h cmd t

/-- The state after slot k of port p has been freed (R78). -/
def State.slotFreed (s : State) (p : PortId) (k : SlotId) : State :=
  { s with
    ports := s.ports.set p
      { s.port p with slots := (s.port p).slots.set k .free, freeOrder := (s.port p).freeOrder ++ [k] } }

/-- The state after a RETRY in slot k of port p: the slot is freed and the RETRY counted (R60, R98). -/
def State.slotRetried (s : State) (p : PortId) (k : SlotId) : State :=
  { s with
    ports := s.ports.set p
      { s.port p with
        slots := (s.port p).slots.set k .free
        freeOrder := (s.port p).freeOrder ++ [k]
        counters := { (s.port p).counters with retries := (s.port p).counters.retries + 1 } } }

/-- The state after the issue timer of slot k of port p has expired: the slot lingers and the timeout is counted (R79, R98). -/
def State.slotTimedOut (s : State) (p : PortId) (k : SlotId) : State :=
  { s with
    ports := s.ports.set p
      { s.port p with
        slots := (s.port p).slots.set k .lingering
        counters := { (s.port p).counters with timeouts := (s.port p).counters.timeouts + 1 } } }

/-- The port after an access has been issued in the head slot k of its free-slot order, whose rest is ks: the slot is ISSUED with
its holder, its command and the port's access timeout, and the access is counted (R78, R98). -/
def Port.issued (q : Port) (k : SlotId) (ks : List SlotId) (h : Holder) (cmd : AccessCommand) : Port :=
  { q with
    slots := q.slots.set k (.issued h cmd (Config.accessTimeoutMicros q.config.accessTimeout))
    freeOrder := ks
    counters := { q.counters with issued := q.counters.issued + 1 } }

/-! ## Tracking entries (R71) -/

/-- The state after tracking entry e of port p has ended, but for its answer and its slot: a SWAP lock of the entry is released, the
entry is freed, the use count of its window falls by 1, and the Mode Controller is told whether the table is empty (R71). -/
def State.entryGone (s : State) (p : PortId) (e : TrackEntry) : State :=
  { s with
    ports := s.ports.set p
      { s.port p with lock := if (s.port p).lock = some e.index then none else (s.port p).lock }
    tracking := s.tracking.filter fun x => x.index ≠ e.index
    windows := s.windows.set e.window { s.window e.window with useCount := (s.window e.window).useCount - 1 }
    mc := { s.mc with trackingEmpty := (s.tracking.filter fun x => x.index ≠ e.index).isEmpty } }

/-- The FAULT answer to an entry, with the PARTIAL mark for a SWAP in its write half (R68, R70). -/
def TrackEntry.faultResponse (e : TrackEntry) (reason : Reason) : Response :=
  { okResponse e.requester e.tag .data [] with
    status := .fault reason
    partialMark := match e.phase with
      | some (.writeHalf _) => true
      | _ => false }

/-- The notice that takes the place of a FAULT answer to a posted WRITE (R69). -/
def State.faultNotice (s : State) (e : TrackEntry) (reason : Reason) : Notice :=
  .postedFault e.window e.requester e.tag ((s.window e.window).contents.untranslate e.physAddr) reason

/-- The state after the answer to an entry that ends in a fault: a RESPONSE, or for a posted WRITE a POSTED_FAULT notice; t is the
state without it (R69, R70). -/
def State.faultAnswered (t : State) (s : State) (e : TrackEntry) (reason : Reason) : State :=
  if e.posted then { t with nu := s.nu.raise (s.faultNotice e reason) } else t.responded (e.faultResponse reason)

/-- What comes about in the same event after an entry has ended: the install that its window's use count allows, dispatch, and what
follows from both (R42, R71). -/
def State.afterEnd (s : State) : State := s.installPending.dispatchAll.followUp

/-- Tracking entry e of port p ends with FAULT PORT_RESET, with the install and the dispatch that its end allows (R71, R74). -/
def State.entryReset (t : State) (p : PortId) (e : TrackEntry) : State :=
  ((t.entryGone p e).faultAnswered t e .portReset).installPending.dispatchAll

/-- Slot k of port p is ISSUED and held by the tracking entry e of that port, which the table finds by its index (R51, R76, R78). -/
structure EntryInSlot (s : State) (p : PortId) (k : SlotId) (e : TrackEntry) : Prop where
  held : HeldSlot s p k (.tracking e.index)
  entry : s.entry? e.index = some e
  issued : e.state = .issued k
  port : e.port = p

/-! ## Copy halves (R115) -/

/-- Slot k of port p is ISSUED and held by half h of channel c, which carries the unit u of the descriptor and progress cur
(R111, R115). -/
structure HalfInSlot (s : State) (p : PortId) (k : SlotId) (c : ChannelId) (h : Half) (cur : CurrentCopy) (u : CopyUnit) : Prop where
  held : HeldSlot s p k (.copy c h)
  current : (s.channel c).current = some cur
  unit : (s.channel c).unit = some u
  half : u.half = .issued k
  phase : u.phase.half = h

/-- The state with channel c replaced by a channel that has no unit in flight, with the Copy Engine's report (R112). -/
def State.channelEnded (s : State) (c : ChannelId) (ch : Channel) : State :=
  { s with
    channels := s.channels.set c ch
    mc := { s.mc with unitsInFlight := (s.channel (1 - c)).unit.isSome } }

/-- The state with channel c FAULTED and its COPY_FAULT raised (R124). -/
def State.channelFaulted (s : State) (c : ChannelId) (h : Half) (cur : CurrentCopy) (reason : Reason) : State :=
  { s.channelEnded c
      { s.channel c with state := .faulted, unit := none, lastFault := some { half := h, reason := reason } } with
    nu := s.nu.raise (.copyFault c h reason cur.remaining) }

/-- The half of channel c that is on port p ends by an accepted PORT RESET: an ABORTING channel becomes IDLE with its COPY_ABORTED,
any other is FAULTED with PORT_RESET and its COPY_FAULT (R125, R129). -/
def State.halfReset (s : State) (p : PortId) (c : ChannelId) : State :=
  match (s.channel c).halfOn p, (s.channel c).current with
  | some h, some cur =>
    if (s.channel c).state = .aborting then
      { s.channelEnded c Channel.initial with nu := s.nu.raise (.copyAborted c cur.remaining) }
    else s.channelFaulted c h cur .portReset
  | _, _ => s

/-! ## The end of the boot (R187) -/

/-- The state after the boot has finished with a result, in which a LOADED image has been applied already (R135, R187). -/
def State.bootFinished (s : State) (r : BootResult) : State :=
  { s with
    boot := { s.boot with phase := .finished, staging := [], inFlight := none, result := r }
    cause := { s.cause with bootResult := r }
    nu := (s.nu.raise (.bootResult r)).raise (.modeChanged .run s.mc.mode .bootEnd)
    mc := { s.mc with
      mode := .run, timer := if s.mc.period = 0 then .off else .running (s.mc.period.toNat * 4000) }
    li := { s.li with creditPending := true } }

/-! ## Owners of pairs and credit (R33, R175) -/

/-- The RESPONSE records whose frames have still to be sent with effect: those in the response queue, and the frame in transmission
unless a link reset has taken its effect (R177, R179). -/
def State.outstanding (s : State) : List Response :=
  s.li.responses ++
    match s.li.transmission with
    | some ⟨.response r, true, _⟩ => [r]
    | _ => []

/-- The pairs that the held requests and commands carry: queue entries, tracking entries not yet answered, management commands whose
answer is deferred, and RESPONSE frames not yet sent, but for those with the refusal mark (R33). -/
def State.heldPairs (s : State) : List Pair :=
  s.requestQueue.map (fun e => (e.requester, e.tag))
    ++ (s.tracking.filter fun e => !e.posted).map (fun e => (e.requester, e.tag))
    ++ (s.mgmtQueue.filter fun e => e.phase == .deferred).map (fun e => (e.requester, e.tag))
    ++ (s.outstanding.filter fun r => !r.refusalMark).map fun r => (r.requester, r.tag)

/-- The pairs of the commands whose answer some block has deferred: the deferred window operation and the port resets in progress
(R161). -/
def State.deferredPairs (s : State) : List Pair :=
  (s.deferred.toList.map fun d => (d.requester, d.tag))
    ++ (List.finRange 4).filterMap fun p => (s.port p).pulse.bind Pulse.answerTo

/-- CREDIT has still to be granted: in BOOTING, while CREDIT is pending, and until the CREDIT frame has been sent (R175, R176). -/
def State.creditOwed (s : State) : Prop :=
  s.mc.mode = .booting ∨ s.li.creditPending = true ∨ ∃ b, s.li.transmission = some ⟨.credit, true, b⟩

/-! ## Invariants -/

/-- In BOOTING the boot is under way, nothing has been admitted or answered, no port reset has been commanded, and no credit has been
granted (R5, R49, R81, R135, R158, R170, R175, R187). -/
structure BootLaw (s : State) : Prop where
  phase : s.boot.phase = .finished ↔ s.mc.mode ≠ .booting
  windows : s.mc.mode = .booting → ∀ i, (s.window i).state = .free ∧ (s.window i).useCount = 0
  deferred : s.mc.mode = .booting → s.deferred = none
  queues : s.mc.mode = .booting → s.requestQueue = [] ∧ s.tracking = [] ∧ s.tags = [] ∧ s.mgmtQueue = []
  credits : s.mc.mode = .booting → s.li.dataCredit = 0 ∧ s.li.mgmtCredit = 0
  link : s.mc.mode = .booting → s.li.creditPending = false ∧ s.li.responses = [] ∧ s.li.transmission = none
  pulses : s.mc.mode = .booting → ∀ p, (s.port p).pulse = none
  reads : s.mc.mode ≠ .booting → s.boot.inFlight = none

/-- Tracking entries have distinct indexes, every window's use count is the number of tracking entries bound to it, and a FREE window
has none and no queue entry bound to it; a window is DRAINING exactly when it is that of the deferred window operation, and it has then
its pending record and at least one tracking entry; a SWAP lock is held for a tracking entry of its own port (R11, R18 to R24, R51, R85). -/
structure UseCountLaw (s : State) : Prop where
  indexes : (s.tracking.map TrackEntry.index).Nodup
  counts : ∀ i, (s.window i).useCount = s.tracking.countP fun e => e.window == i
  free : ∀ i, (s.window i).state = .free → (s.window i).useCount = 0
  bound : ∀ e ∈ s.requestQueue, (s.window e.window).state ≠ .free
  draining : ∀ i, (s.window i).state = .draining ↔ ∃ d, s.deferred = some d ∧ d.index = i
  waiting : ∀ i, (s.window i).state = .draining → 1 ≤ (s.window i).useCount ∧ (s.window i).pending.isSome = true
  locks : ∀ p i, (s.port p).lock = some i → ∃ e ∈ s.tracking, e.index = i ∧ e.port = p

/-- No logical address lies in the ranges of two different windows (R10). -/
def OverlapLaw (s : State) : Prop :=
  ∀ i j a b, i ≠ j → a ∈ (s.window i).reserved → b ∈ (s.window j).reserved → rangesMeet a b = false

/-- The free-slot order of each port lists its free slots, each once (R78), and a port in HELD, STOPPED or RESETTING has no ISSUED
slot (R80); a RESETTING port has every slot free (R77, R92). -/
structure SlotLaw (p : Port) : Prop where
  once : p.freeOrder.Nodup
  exact : ∀ k, k ∈ p.freeOrder ↔ p.slot k = .free
  resting : p.state = .held ∨ p.state = .stopped ∨ p.state = .resetting → p.anyIssued = false
  resetting : p.state = .resetting → ∀ k, p.slot k = .free

/-- The notice queue holds at most 8 records, no two with the same identity, each with a count of 1 to 255; the lost count and the
response run stay in their ranges (R149, R150). -/
structure NoticeLaw (u : NoticeUnit) : Prop where
  size : u.queue.length ≤ 8
  identities : u.queue.Pairwise fun a b => a.notice.sameIdentity b.notice = false
  counts : ∀ r ∈ u.queue, 1 ≤ r.count ∧ r.count ≤ 255
  lost : u.lost ≤ 65535
  run : u.run ≤ 8

/-- The tag set is exactly the pairs of the held requests and commands, each once: no two of them share requester and tag; every
management entry that is not ANSWERED is one whose answer some block has deferred, and every ANSWERED one has its RESPONSE still to
be sent (R33, R158, R161). -/
structure TagLaw (s : State) : Prop where
  once : s.tags.Nodup
  held : s.heldPairs.Perm s.tags
  deferred : ((s.mgmtQueue.filter fun e => e.phase == .deferred).map fun e => (e.requester, e.tag)).Perm s.deferredPairs
  answered : ((s.mgmtQueue.filter fun e => e.phase == .answered).map fun e => (e.requester, e.tag)).Perm
    ((s.outstanding.filter fun r => !r.refusalMark && r.pool == .management).map fun r => (r.requester, r.tag))
  pulses : ∀ p, (s.port p).state ≠ .resetting → (s.port p).pulse.bind Pulse.answerTo = none

/-- Once CREDIT has been granted, each pool's balance and the requests of the pool that are not yet answered add up to the pool:
24 data requests and 2 management commands; until then both balances are 0 and nothing is held. CREDIT is not pending while a CREDIT
frame is being sent with effect (R38, R158, R175, R176, R179). -/
structure CreditLaw (s : State) : Prop where
  once : s.li.creditPending = true → ∀ b, s.li.transmission ≠ some ⟨.credit, true, b⟩
  owed : s.creditOwed → s.li.dataCredit = 0 ∧ s.li.mgmtCredit = 0 ∧ s.requestQueue = [] ∧ s.tracking = [] ∧ s.mgmtQueue = [] ∧
    s.outstanding = []
  data : ¬ s.creditOwed →
    s.li.dataCredit + s.requestQueue.length + (s.tracking.countP fun e => !e.posted) +
      (s.outstanding.countP fun r => r.pool == .data) = 24
  management : ¬ s.creditOwed →
    s.li.mgmtCredit + s.mgmtQueue.length + (s.outstanding.countP fun r => r.refusalMark && r.pool == .management) = 2

/-! ## What an event leaves (R42, R82, R88, R91, R137) -/

/-- Nothing follows from the state within an event: no queue entry is dispatchable (R42), QUIESCING does not wait with the quiesce
conditions holding (R137), no arbiter has anything to serve (R82), and a SETTLING port still has an ISSUED slot (R88, R91). -/
structure NothingFollows (s : State) : Prop where
  dispatch : ∀ e ∈ s.requestQueue, s.dispatchable e = false
  quiet : s.mc.mode = .quiescing → s.mc.quiesceConditions = false
  arbiters : ∀ p, s.arbiterChoice p = none
  settles : ∀ p x, (s.port p).state = .settling x → (s.port p).anyIssued = true

/-- No event has left anything to do: no install is due (R11, R23, R24), and nothing follows. -/
structure NothingDue (s : State) : Prop extends NothingFollows s where
  install : s.installDue = none

/-- The transmitter may take a frame: the part is not held in reset, the link is UP and no frame is in transmission (R178). -/
def State.transmitterFree (s : State) : Prop := s.resetn = false ∧ s.li.up = true ∧ s.li.transmission = none

/-- A step that the part itself has due. An install of a drained window (R23, R24), the end of a settle (R88, R91), the change to QUIET (R137),
dispatch (R42), what an arbiter has chosen (R82), a take of the transmitter (R153, R154, R178); the expiry of a timer that has run out (R26,
R79, R89, R93, R100, R144, R173); the end of a frame whose last byte has left (R178). No other command comes from the part itself. -/
def DueStep (s : State) : Instr → Prop
  | .installReplacement => ∃ d c l, s.deferred = some d ∧ (s.window d.index).state = .draining ∧
      (s.window d.index).useCount = 0 ∧ (s.window d.index).pending = some ⟨.replacement c, l⟩
  | .installClose => ∃ d l, s.deferred = some d ∧ (s.window d.index).state = .draining ∧
      (s.window d.index).useCount = 0 ∧ (s.window d.index).pending = some ⟨.close, l⟩
  | .portBecomesHeld p => (s.port p).state = .settling .held ∧ (s.port p).anyIssued = false
  | .portBecomesStopped p => (s.port p).state = .settling .stopped ∧ (s.port p).anyIssued = false
  | .quietReached => s.mc.mode = .quiescing ∧ s.mc.queueEmpty = true ∧ s.mc.trackingEmpty = true ∧ s.mc.unitsInFlight = false
  | .dispatch => ∃ e ∈ s.requestQueue, s.dispatchable e = true
  | .upkeepIssue p => s.arbiterChoice p = some .upkeep
  | .holdTaken p => s.arbiterChoice p = some .hold
  | .bootReadIssue => s.arbiterChoice 0 = some .boot
  | .copyHalfIssue p => ∃ c, s.arbiterChoice p = some (.copy c)
  | .issue p => ∃ e, s.arbiterChoice p = some (.upstream e)
  | .takeCredit => s.transmitterFree ∧ s.li.creditPending = true
  | .takeNotice => s.transmitterFree ∧ s.li.creditPending = false ∧ s.mc.mode ≠ .booting ∧ s.nu.queue ≠ [] ∧
      (s.li.responses = [] ∨ s.nu.run = 8)
  | .takeResponse => s.transmitterFree ∧ s.li.creditPending = false ∧ s.li.responses ≠ [] ∧
      (s.nu.queue = [] ∨ s.mc.mode = .booting ∨ s.nu.run ≠ 8)
  | .issueTimerExpiry p k => ∃ h cmd, (s.port p).slot k = .issued h cmd 0
  | .holdLimitExpiry p => (s.port p).state = .held ∧ (s.port p).holdTimer = some 0
  | .resetPulseExpiry p => (s.port p).state = .resetting ∧ ∃ u, (s.port p).pulse = some u ∧ u.timer = 0
  | .upkeepExpiry p => ∃ x, (s.port p).upkeep.timer = some x ∧ x.left = 0
  | .drainTimerExpiry => ∃ d, s.deferred = some d ∧ d.timer = 0 ∧ (s.window d.index).state = .draining
  | .supervisionTimerExpiry => s.mc.timer = .running 0
  | .silenceTimerExpiry => s.li.up = true ∧ s.li.silence = some 0
  | .responseSent => ∃ r e, s.li.transmission = some ⟨.response r, e, 0⟩
  | .noticeSent => ∃ n lost e, s.li.transmission = some ⟨.notice n lost, e, 0⟩
  | .creditSent => ∃ e, s.li.transmission = some ⟨.credit, e, 0⟩
  | _ => False

/-- What State.followUp leaves alone: s is the state before, t the state after. Queue entries only leave, tracking entries keep their
places and take new ones behind them, windows change in their use counts alone, channels in their units and permits, the link in new
RESPONSE records; a port that is neither ACTIVE nor SETTLING stays as it is; and outside QUIESCING no notice is raised and the mode
stays (R42, R43, R82, R88, R91, R137). -/
structure FollowUpFrame (s t : State) : Prop where
  fields : t.pending = s.pending ∧ t.resetn = s.resetn ∧ t.deferred = s.deferred ∧ t.tags = s.tags ∧
    t.engineEnable = s.engineEnable ∧ t.mgmtQueue = s.mgmtQueue ∧ t.managers = s.managers ∧ t.cause = s.cause
  queue : t.requestQueue.Sublist s.requestQueue
  tracking : s.tracking.map TrackEntry.index <+: t.tracking.map TrackEntry.index
  windows : ∀ i, ∃ n, t.window i = { s.window i with useCount := n }
  channels : ∀ c, ∃ u b, t.channel c = { s.channel c with unit := u, permit := b }
  ports : ∀ p, (t.port p).config = (s.port p).config ∧ (t.port p).holdRequest = (s.port p).holdRequest ∧
    (t.port p).pace = (s.port p).pace ∧ (t.port p).pulse = (s.port p).pulse ∧
    (t.port p).stallReport = (s.port p).stallReport ∧ ∃ n, (t.port p).counters = { (s.port p).counters with issued := n }
  resting : ∀ p, (s.port p).state ≠ .active → (∀ x, (s.port p).state ≠ .settling x) → t.port p = s.port p
  link : ∃ rs, t.li = { s.li with responses := s.li.responses ++ rs }
  modes : t.mc.period = s.mc.period ∧ t.mc.timer = s.mc.timer ∧ t.mc.wakeOnRequest = s.mc.wakeOnRequest
  notices : t.nu.mask = s.nu.mask ∧ t.nu.run = s.nu.run
  boot : ∃ r, t.boot = { s.boot with inFlight := r }
  quiet : s.mc.mode ≠ .quiescing → t.mc.mode = s.mc.mode ∧ t.nu = s.nu

end Sys2Proof.Machine
end

