-- ==== Sys2Proof/Certificates/Slice0/Obligations.lean ====
section
/-! DEFINITION. The statements for the provers: what each command does, from the numbered rules of spec/, and the invariants that every
step keeps. A statement whose conclusion is `exec … = .next { s with … }` says the whole next state: every field of State that the
record does not name is unchanged. Where the conclusion ends in State.followUp, the record is the state after the command's own effect,
and State.followUp, which FollowUpOfAnEvent describes, is what comes about in the same event: dispatch, the quiesce test, the arbiters and
the ends of settles. -/

open Sys2Proof Sys2Proof.Machine

/-! ## Steps and resets -/

/-- A step with a command at the front of the queue is that command on the state with the rest of the queue. -/
def Obligations.StepRunsTheFrontCommand : Prop :=
  ∀ (c : Instr) (rest : List Instr) (s : State), s.pending = c :: rest → step s = exec c { s with pending := rest }

/-- With no command waiting the part takes one of its own steps that are due, and when none is due 1 µs passes: every issue timer, hold limit
timer, pulse timer, interval timer, the drain timer, the supervision timer and the silence timer has 1 µs less to run, 50 bytes of a frame
in transmission leave, and nothing else changes. DueStep says when each step is due. That a step on an empty queue does so, and which of
several due steps is the first, is the model's choice, log 2 (R26, R78, R89, R92, R100, R144, R173, R178). -/
def Obligations.StepOnAnEmptyQueue : Prop :=
  ∀ s : State, s.pending = [] →
    (∀ c, s.ownStep = some c → DueStep s c ∧ step s = exec c s) ∧
    (s.ownStep = none ↔ ∀ c, ¬ DueStep s c) ∧
    ((∀ c, ¬ DueStep s c) → ∃ t : State, step s = .next t ∧
      { t with ports := s.ports } =
        { s with
          deferred := s.deferred.map fun d => { d with timer := d.timer - 1 }
          mc := { s.mc with
            timer := match s.mc.timer with
              | .running x => .running (x - 1)
              | x => x }
          li := { s.li with
            silence := s.li.silence.map fun x => x - 1
            transmission := s.li.transmission.map fun x => { x with bytesLeft := x.bytesLeft - 50 } } } ∧
      ∀ p,
        t.port p =
          { s.port p with
            slots := (t.port p).slots
            holdTimer := (s.port p).holdTimer.map fun x => x - 1
            pulse := (s.port p).pulse.map fun u => { u with timer := u.timer - 1 }
            upkeep := { (s.port p).upkeep with
              timer := (s.port p).upkeep.timer.map fun x => { x with left := x.left - 1 } } } ∧
        ∀ k, (t.port p).slot k =
          match (s.port p).slot k with
          | .issued h cmd x => .issued h cmd (x - 1)
          | x => x)

/-- No command stops the part, and no command changes the queue of waiting commands. -/
def Obligations.EveryCommandAnswersNextAndKeepsTheQueue : Prop :=
  ∀ (c : Instr) (s : State), ∃ t, exec c s = .next t ∧ t.pending = s.pending

/-- The values that the chapters give for power-on: R5, R49, R72, R81, R94, R99, R111, R134, R150, R158, R170, R183, R188. By the model's
choices the zero encoding of a window's size stands for 1 granule (log 13), and RESETN, the hold request lines and the pace lines are
deasserted (log 5); the queue of commands is empty. -/
def Obligations.ResetHoldsThePowerOnValues : Prop :=
  (∀ i, State.reset.window i =
      { state := .free
        contents :=
          { logicalBase := 0, size := 1, port := 0, physicalBase := 0, mayRead := false, mayWrite := false, maySwap := false
            requesters := 0, posted := false, strict := false }
        useCount := 0, hitCount := 0, pending := none }) ∧
  State.reset.pending = [] ∧ State.reset.resetn = false ∧
  (∀ p, (State.reset.port p).holdRequest = false ∧ (State.reset.port p).pace = false) ∧
  State.reset.deferred = none ∧ State.reset.requestQueue = [] ∧ State.reset.tags = [] ∧ State.reset.tracking = [] ∧
  (∀ p, (State.reset.port p).state = (if p = 0 then .active else .disabled) ∧
    (State.reset.port p).config =
      { accessTimeout := 3, retryLimit := 3, resetPulse := 16, holdLimit := 0, interval := 0, rowLimit := 1024 } ∧
    (∀ k, (State.reset.port p).slot k = .free) ∧ (State.reset.port p).freeOrder = [0, 1, 2, 3] ∧
    (State.reset.port p).lock = none ∧ (State.reset.port p).stallReport = false ∧ (State.reset.port p).turn = .upstream ∧
    (State.reset.port p).holdTimer = none ∧ (State.reset.port p).pulse = none ∧
    (State.reset.port p).counters = { issued := 0, timeouts := 0, late := 0, retries := 0, stray := 0 } ∧
    (State.reset.port p).upkeep =
      { timer := none, pending := false, inFlight := none, rowCounter := 0, done := 0, missed := 0, suppressed := 0,
        failed := 0, lastFailedRow := none }) ∧
  State.reset.engineEnable = true ∧
  (∀ c, State.reset.channel c =
      { state := .idle, current := none, pending := none, unit := none, permit := false, lastFault := none }) ∧
  State.reset.mc =
    { mode := .booting, stopOnQuiet := false, period := 0, timer := .off, wakeOnRequest := false, queueEmpty := true,
      trackingEmpty := true, unitsInFlight := false } ∧
  State.reset.nu.queue = [] ∧ (∀ n : Notice, State.reset.nu.enabled n = true) ∧ State.reset.nu.lost = 0 ∧
  State.reset.nu.run = 0 ∧ State.reset.mgmtQueue = [] ∧
  (∀ r : Requester, State.reset.managers.getLsbD r.val = decide (r = 0)) ∧
  State.reset.li =
    { up := false, silence := none, failureRun := 0, dataCredit := 0, mgmtCredit := 0, creditPending := false, responses := [],
      transmission := none, checkErrors := 0, overruns := 0, malformed := 0 } ∧
  State.reset.boot = { phase := .header, staging := [], nextAddr := 0, inFlight := none, result := .notRun } ∧
  State.reset.cause =
    { last := .powerOn, modeAtReset := none, previous := none, resetCount := 1, bootResult := .notRun }

/-- POWER_ON and PIN_RESET return every block to its reset values; the Cause Record is updated by the kind of reset; the input lines keep
their levels, and POWER_ON leaves RESETN deasserted (log 5). POWER_ON and the end of RESETN begin the boot in the same event. That PIN_RESET
while RESETN is asserted, and RESETN_DEASSERTED while it is not, leave the state as it is, is the model's choice, log 4 (R182, R188). -/
def Obligations.PowerOnAndPinReset : Prop :=
  ∀ s : State,
    (∃ t : State, exec .powerOn s = .next t.followUp ∧
      { t with ports := State.reset.ports } = { State.reset with pending := s.pending } ∧
      ∀ p, t.port p =
        { State.reset.port p with holdRequest := (s.port p).holdRequest, pace := (s.port p).pace }) ∧
    (s.resetn = false → ∃ t, exec .pinReset s = .next t ∧
      { t with ports := State.reset.ports } =
        { State.reset with
          pending := s.pending
          resetn := true
          cause :=
            { last := .pin, modeAtReset := some s.mc.mode, previous := some s.cause.last,
              resetCount := min 65535 (s.cause.resetCount + 1), bootResult := .notRun } } ∧
      ∀ p, t.port p =
        { State.reset.port p with holdRequest := (s.port p).holdRequest, pace := (s.port p).pace }) ∧
    (s.resetn = true → exec .pinReset s = .next s ∧ exec .resetnDeasserted s = .next (State.followUp { s with resetn := false })) ∧
    (s.resetn = false → exec .resetnDeasserted s = .next s)

/-- What comes about within an event after its own effect. State.followUp leaves alone what FollowUpFrame lists; it changes nothing where
nothing follows; and where tracking entries have distinct indexes and SWAP locks are held for entries of their own port it leaves nothing
more to follow. An arbiter serves while it has chosen something, and then a SETTLING port with no ISSUED slot reaches its target. A
command that is a step of an arbiter, of dispatch, of the quiesce test or of a settle does that step when it is due; that it leaves the
state as it is otherwise is the model's choice, log 1, and so is the order of the steps of one event, log 2 (R42, R82, R88, R91, R137). -/
def Obligations.FollowUpOfAnEvent : Prop :=
  ∀ s : State,
    FollowUpFrame s s.followUp ∧
    (NothingFollows s → s.followUp = s) ∧
    ((s.tracking.map TrackEntry.index).Nodup →
      (∀ p i, (s.port p).lock = some i → ∃ e ∈ s.tracking, e.index = i ∧ e.port = p) → NothingFollows s.followUp) ∧
    ∀ p : PortId,
      (s.arbiterChoice p ≠ none → s.arbitrate p = (s.serve p).arbitrate p) ∧
      (s.arbiterChoice p = none →
        ((∀ x, (s.port p).state ≠ .settling x) ∨ (s.port p).anyIssued = true → s.arbitrate p = s) ∧
        ((s.port p).anyIssued = false →
          ((s.port p).state = .settling .held → exec (.portBecomesHeld p) s = .next (s.arbitrate p).followUp) ∧
          ((s.port p).state = .settling .stopped → exec (.portBecomesStopped p) s = .next (s.arbitrate p).followUp))) ∧
      (s.arbiterChoice p = some .upkeep → exec (.upkeepIssue p) s = .next (s.serve p).followUp) ∧
      (s.arbiterChoice p = some .hold → exec (.holdTaken p) s = .next (s.serve p).followUp) ∧
      (s.arbiterChoice p = some .boot → p = 0 → exec .bootReadIssue s = .next (s.serve p).followUp) ∧
      (∀ c, s.arbiterChoice p = some (.copy c) → exec (.copyHalfIssue p) s = .next (s.serve p).followUp) ∧
      (∀ e, s.arbiterChoice p = some (.upstream e) → exec (.issue p) s = .next (s.serve p).followUp) ∧
      (NothingFollows s →
        ∀ c ∈ [.issue p, .upkeepIssue p, .copyHalfIssue p, .bootReadIssue, .holdTaken p, .portBecomesHeld p, .portBecomesStopped p,
          .dispatch, .quietReached], exec c s = .next s)

/-! ## The Request Link -/

/-- FILL restarts the silence timer, and on a DOWN link brings the link UP, clears the failure run and raises LINK_RESTORED; a frame that
fails the check is counted, and on an UP link restarts the silence timer, or brings the link DOWN when the failure run reaches 8; the
silence timer of an UP link runs out and the link is DOWN; that SILENCE_TIMER_EXPIRY with time left or on a DOWN link leaves the state as it
is, is the model's reading, log 3. An IDLE frame is received and has no
further effect; a LINK RESET frame in BOOTING is discarded and counted as an overrun with no CREDIT_OVERRUN notice; a malformed IDLE or
LINK RESET frame is counted and not taken (R172, R173, R174, R179, R181). -/
def Obligations.LinkComesUpAndGoesDown : Prop :=
  ∀ s : State, s.resetn = false →
    exec .fill s = .next
      { s with
        li := { s.li with
          up := true, silence := some 64, failureRun := if s.li.up then s.li.failureRun else 0 }
        nu := if s.li.up then s.nu else s.nu.raise .linkRestored } ∧
    exec .frameCheckFailed s = .next
      { s with
        li := { s.li with
          checkErrors := s.li.checkErrors + 1
          failureRun := min 8 (s.li.failureRun + 1)
          up := s.li.up && decide (s.li.failureRun + 1 < 8)
          silence := if s.li.up then (if s.li.failureRun + 1 < 8 then some 64 else none) else s.li.silence } } ∧
    (s.li.up = true → s.li.silence = some 0 →
      exec .silenceTimerExpiry s = .next { s with li := { s.li with up := false, silence := none } }) ∧
    (s.li.up = false ∨ s.li.silence ≠ some 0 → exec .silenceTimerExpiry s = .next s) ∧
    exec (.idle false) s = .next s.received ∧
    exec (.idle true) s = .next { s.received with li := { s.received.li with malformed := s.li.malformed + 1 } } ∧
    (s.mc.mode = .booting →
      exec (.linkReset false) s = .next { s.received with li := { s.received.li with overruns := s.li.overruns + 1 } }) ∧
    exec (.linkReset true) s = .next { s.received with li := { s.received.li with malformed := s.li.malformed + 1 } }

/-- A LINK RESET frame taken: queues, tags and tracking are emptied, drains revert, slots held by tracking entries linger, SWAP locks are
released, the engine is quenched, the mode is RUN, CREDIT is pending, tables and settings are kept, ports leave STOP, and the notice queue
holds only what the link reset raises: MODE_CHANGED, PORT_STALLED of S0 to S3, LINK_RESTORED of a DOWN link, in this order, which is the
model's (log 8) (R6, R50, R65, R73, R81, R133, R142, R157, R158, R173, R179, R188). -/
def Obligations.LinkResetTaken : Prop :=
  ∀ s : State, s.resetn = false → s.mc.mode ≠ .booting →
    ∃ t : State, exec (.linkReset false) s = .next t.followUp ∧
      t.requestQueue = [] ∧ t.tags = [] ∧ t.tracking = [] ∧ t.mgmtQueue = [] ∧ t.deferred = none ∧
      (∀ i, t.window i =
        { s.window i with
          state := if (s.window i).state = .draining then .live else (s.window i).state
          useCount := 0, pending := none }) ∧
      t.li =
        { s.received.li with
          responses := [], dataCredit := 0, mgmtCredit := 0, creditPending := true
          transmission := s.li.transmission.map fun x => { x with effective := false } } ∧
      t.mc =
        { s.received.mc with
          mode := .run, stopOnQuiet := false, queueEmpty := true, trackingEmpty := true } ∧
      t.engineEnable = false ∧
      (∀ c, t.channel c =
        if (s.channel c).state = .running ∧ (s.channel c).unit = none then { s.channel c with state := .paused }
        else s.channel c) ∧
      (∀ p k, (t.port p).slot k =
        match (s.port p).slot k with
        | .issued (.tracking _) _ _ => .lingering
        | x => x) ∧
      (∀ p, (t.port p).lock = none ∧ (t.port p).config = (s.port p).config ∧ (t.port p).counters = (s.port p).counters ∧
        (t.port p).freeOrder = (s.port p).freeOrder ∧ (t.port p).turn = (s.port p).turn ∧
        (t.port p).holdRequest = (s.port p).holdRequest ∧ (t.port p).pace = (s.port p).pace ∧
        (t.port p).pulse = (s.port p).pulse.map fun u => { u with answerTo := none }) ∧
      (∀ p, (t.port p).stallReport = ((s.port p).stallReport || decide (∀ k, (t.port p).slot k = .lingering))) ∧
      (s.mc.mode ≠ .stop → ∀ p, (t.port p).state = (s.port p).state ∧ (t.port p).upkeep = (s.port p).upkeep ∧
        (t.port p).holdTimer = (s.port p).holdTimer) ∧
      (s.mc.mode = .stop → ∀ p, (t.port p).state = (s.port p).modeLeavesStop.state ∧
        (t.port p).upkeep = (s.port p).modeLeavesStop.upkeep ∧ (t.port p).holdTimer = (s.port p).holdTimer) ∧
      (let changed :=
        if s.mc.mode = .run then { s.nu with queue := [], run := 0 }
        else { s.nu with queue := [], run := 0 }.raise (.modeChanged .run s.mc.mode .linkReset)
      let stalled := (List.finRange 4).foldl
        (fun (u : NoticeUnit) p =>
          if (s.port p).stallReport = false ∧ ∀ k, (t.port p).slot k = .lingering then u.raise (.portStalled p) else u)
        changed
      t.nu = if s.li.up then stalled else stalled.raise .linkRestored) ∧
      t.nu.mask = s.nu.mask ∧ t.nu.run = 0 ∧ t.managers = s.managers ∧ t.boot = s.boot ∧
      t.cause =
        { last := .link, modeAtReset := some s.mc.mode, previous := some s.cause.last,
          resetCount := min 65535 (s.cause.resetCount + 1), bootResult := s.cause.bootResult }

/-- What the free transmitter of an UP link takes: the CREDIT frame; a NOTICE, when the response queue is empty or the response run is 8;
the oldest RESPONSE (R153, R154, R176, R178). The frame's line time is its bytes and two delimiters, and is held as bytes left, log 12. -/
def Obligations.TransmitterTakesInOrder : Prop :=
  ∀ s : State, s.resetn = false → s.li.up = true → s.li.transmission = none →
    (s.li.creditPending = true →
      exec .takeCredit s = .next
        { s with
          li := { s.li with
            creditPending := false
            transmission := some { frame := .credit, effective := true, bytesLeft := 8 } } }) ∧
    (∀ n rest, s.li.creditPending = false → s.mc.mode ≠ .booting → s.nu.queue = n :: rest →
      s.li.responses = [] ∨ s.nu.run = 8 →
      exec .takeNotice s = .next
        { s with
          li := { s.li with
            transmission := some
              { frame := .notice n s.nu.lost, effective := true
                bytesLeft := (SentFrame.notice n s.nu.lost).bytes.length + 2 } }
          nu := { s.nu with queue := rest, lost := 0, run := 0 } }) ∧
    (∀ r rest, s.li.creditPending = false → s.li.responses = r :: rest →
      s.nu.queue = [] ∨ s.mc.mode = .booting ∨ s.nu.run ≠ 8 →
      exec .takeResponse s = .next
        { s with
          li := { s.li with
            responses := rest
            transmission := some
              { frame := .response r, effective := true, bytesLeft := (SentFrame.response r).bytes.length + 2 } }
          nu := { s.nu with run := if s.nu.queue = [] then s.nu.run else min 8 (s.nu.run + 1) } })

/-- The ends of frames: a RESPONSE returns its pool's credit and, without the refusal mark, releases its pair and a management entry; a
CREDIT sets both balances; a NOTICE, and any frame that was in transmission at a link reset, has no effect. That the end of a frame, sent as
a command, is taken whatever bytes are left, is the model's reading, log 12 (R33, R158, R175, R176, R178, R179). -/
def Obligations.EndsOfTransmission : Prop :=
  ∀ (s : State) (r : Response) (n : NoticeRecord) (lost bytes : Nat) (e : Bool),
    (s.li.transmission = some ⟨.response r, true, bytes⟩ → r.pool = .data →
      exec .responseSent s = .next
        { s with
          li := { s.li with transmission := none, dataCredit := s.li.dataCredit + 1 }
          tags := if r.refusalMark then s.tags else s.tags.filter fun q => q ≠ (r.requester, r.tag) }) ∧
    (s.li.transmission = some ⟨.response r, true, bytes⟩ → r.pool = .management →
      exec .responseSent s = .next
        { s with
          li := { s.li with transmission := none, mgmtCredit := s.li.mgmtCredit + 1 }
          tags := if r.refusalMark then s.tags else s.tags.filter fun q => q ≠ (r.requester, r.tag)
          mgmtQueue := if r.refusalMark then s.mgmtQueue
            else s.mgmtQueue.filter fun x => (x.requester, x.tag) ≠ (r.requester, r.tag) }) ∧
    (s.li.transmission = some ⟨.response r, false, bytes⟩ →
      exec .responseSent s = .next { s with li := { s.li with transmission := none } }) ∧
    (s.li.transmission = some ⟨.credit, true, bytes⟩ →
      exec .creditSent s = .next
        { s with li := { s.li with transmission := none, dataCredit := 24, mgmtCredit := 2 } }) ∧
    (s.li.transmission = some ⟨.credit, false, bytes⟩ →
      exec .creditSent s = .next { s with li := { s.li with transmission := none } }) ∧
    (s.li.transmission = some ⟨.notice n lost, e, bytes⟩ →
      exec .noticeSent s = .next { s with li := { s.li with transmission := none } })

/-- Every frame the part sends passes the CRC test of R171, and its length byte is its byte count, for at most 61 data words (12.2). A
RESPONSE and a NOTICE carry their fields in the bytes of 12.2: kind, pool, requester, tag, status, reason, marks, data count and data words;
kind code, subject, occurrence count, detail count, lost count and detail words. The numbers behind the reasons, modes, boot results, causes,
halves, pools and notice kinds are those of 12.2, and so are the subject and the detail words of each kind; words go most significant byte
first; the check field is the CRC with initial value FFFFH and polynomial x^16 + x^12 + x^5 + 1, high byte first (R149, R153, R171, R177,
R190, R191). -/
def Obligations.SentFramesCarryTheirCheck : Prop :=
  ((crc [] = 0xFFFF ∧
      ∀ bytes b, crc (bytes ++ [b]) =
        (List.range 8).foldl (fun c _ => if c.msb then (c <<< 1) ^^^ 0x1021 else c <<< 1)
          (crc bytes ^^^ (b.setWidth 16 <<< 8))) ∧
    (∀ frame, crcCorrect frame = true ↔
      3 ≤ frame.length ∧
        ∃ bytes, frame = bytes ++ [(crc bytes).extractLsb' 8 8, (crc bytes).extractLsb' 0 8]) ∧
    (∀ bytes, sealed bytes = bytes ++ [(crc bytes).extractLsb' 8 8, (crc bytes).extractLsb' 0 8]) ∧
    ∀ w, bytesOf w = [w.extractLsb' 24 8, w.extractLsb' 16 8, w.extractLsb' 8 8, w.extractLsb' 0 8]) ∧
  ([.mode, .tagInUse, .format, .unmapped, .spans, .denied, .portOff, .remapped, .busy, .badIndex, .range, .overlap, .notLive,
      .notFree, .state, .unknown, .segmentError, .timeout, .portReset, .drainExpired].map Reason.code =
      [1, 2, 3, 4, 5, 6, 7, 8, 9, 10, 11, 12, 13, 14, 15, 16, 17, 18, 19, 20] ∧
    [.booting, .run, .quiescing, .quiet, .stop].map Mode.code = [0, 1, 2, 3, 4] ∧
    [.notRun, .absent, .rejectedFormat, .rejectedCheck, .rejectedAccess, .loaded].map BootResult.code = [0, 1, 2, 3, 4, 5] ∧
    [.bootEnd, .quiesce, .supervision, .quietReached, .stop, .resume, .wake, .linkReset].map ModeCause.code =
      [1, 2, 3, 4, 5, 6, 7, 8] ∧
    [.read, .write].map Half.code = [0, 1] ∧ [.data, .management].map Pool.code = [0, 1]) ∧
  (∀ (b : BootResult) (w : WindowIdx) (q : Requester) (g : Tag) (a : Word) (x : Reason) (p : PortId) (k : SlotId) (row : Row)
      (c : ChannelId) (n : Nat) (h : Half) (m v : Mode) (z : ModeCause) (l : Pool),
    let kinds : List Notice :=
      [.bootResult b, .postedFault w q g a x, .lateCompletion p k, .strayCompletion p k, .portStalled p, .holdOverlong p,
       .upkeepFailed p row, .copyDone c n, .copyFault c h x n, .copyAborted c n, .supervisionExpired, .modeChanged m v z,
       .creditOverrun l, .linkRestored]
    kinds.map Notice.kindCode = [1, 2, 3, 4, 5, 6, 7, 8, 9, 10, 11, 12, 13, 14] ∧
    kinds.map Notice.subject =
      [.link, .window w, .port p, .port p, .port p, .port p, .port p, .channel c, .channel c, .channel c, .link, .mode m, .link,
       .link] ∧
    kinds.map Notice.detailWords =
      [[BitVec.ofNat 32 b.code], [BitVec.ofNat 32 (g.val + 0x100 * q.val + 0x10000 * x.code), a], [BitVec.ofNat 32 k.val],
       [BitVec.ofNat 32 k.val], [], [], [BitVec.ofNat 32 row.toNat], [BitVec.ofNat 32 n],
       [BitVec.ofNat 32 (h.code + 0x100 * x.code), BitVec.ofNat 32 n], [BitVec.ofNat 32 n], [],
       [BitVec.ofNat 32 (v.code + 0x100 * z.code)], [BitVec.ofNat 32 l.code], []]) ∧
  (∀ f : SentFrame, crcCorrect f.bytes = true ∧
    ((∀ r, f = .response r → r.data.length ≤ 61) → ((byteAt f.bytes 1).toNat = f.bytes.length))) ∧
  (∀ r : Response, r.data.length ≤ 61 →
    ∃ h a b, (SentFrame.response r).bytes = h ++ r.data.flatMap bytesOf ++ [a, b] ∧ h.length = 8 ∧
      byteAt h 0 = 0x81 ∧ ((byteAt h 2).extractLsb' 6 2).toNat = (if r.pool = .data then 0 else 1) ∧
      ((byteAt h 2).extractLsb' 3 3).toNat = r.requester.val ∧ ((byteAt h 2).extractLsb' 0 3).toNat = 0 ∧
      (byteAt h 3).toNat = r.tag.val ∧
      (byteAt h 4).toNat = (match r.status with
        | .ok => 0
        | .refused _ => 1
        | .fault _ => 2) ∧
      (byteAt h 5).toNat = (match r.status with
        | .ok => 0
        | .refused x => x.code
        | .fault x => x.code) ∧
      (byteAt h 6).getLsbD 0 = r.partialMark ∧ (byteAt h 6).getLsbD 1 = r.swapped.isSome ∧
      (byteAt h 6).getLsbD 2 = (r.swapped == some true) ∧ (byteAt h 6).toNat < 8 ∧ (byteAt h 7).toNat = r.data.length) ∧
  (∀ (n : NoticeRecord) (lost : Nat), n.count ≤ 255 → lost ≤ 65535 →
    ∃ h a b, (SentFrame.notice n lost).bytes = h ++ n.notice.detailWords.flatMap bytesOf ++ [a, b] ∧ h.length = 8 ∧
      byteAt h 0 = 0x82 ∧ (byteAt h 2).toNat = n.notice.kindCode ∧
      (byteAt h 3).toNat = (match n.notice.subject with
        | .link => 0
        | .window i => i.val
        | .port p => p.val
        | .channel c => c.val
        | .mode m => m.code) ∧
      (byteAt h 4).toNat = n.count ∧ (byteAt h 5).toNat = n.notice.detailWords.length ∧
      (byteAt h 6).toNat * 256 + (byteAt h 7).toNat = lost) ∧
  ∃ a b, SentFrame.credit.bytes = [0x83, 6, 24, 2, a, b]

/-- Reading a frame is the inverse of laying it out: the bytes of 12.2 and 12.3 of a REQUEST that is not malformed, with their check field,
are read as that request, and a frame whose check field is wrong is FRAME_CHECK_FAILED. A frame with a right check field fails the check
when its kind is none of REQUEST, IDLE and LINK RESET, or it is a REQUEST with fewer than 4 bytes or of no pool; any other is read as the
frame of its kind, pool and command code (12.3), with its requester and tag, and with the malformed mark exactly on the grounds of R190. The
delimiters cut the line into frames: a frame between an opening and a closing delimiter is read, and an opening delimiter before the closing
one ends the frame in progress as one that fails the check and opens a new frame; symbols outside frames stand for nothing but fill, and
fill within a frame is fill, and the fields that a malformed frame does not hold are zero (log 9) (R171, R173, R174, R190). -/
def Obligations.ReceivedFramesAreRead : Prop :=
  (∀ f : MgmtFrame,
    let codes : List (Byte × Instr) :=
      [(0x10, .windowLoad f), (0x11, .windowReplace f), (0x12, .windowClose f), (0x13, .windowRead f), (0x14, .windowFind f),
       (0x20, .portConfigure f), (0x21, .portEnable f), (0x22, .portDisable f), (0x23, .portReset f), (0x24, .portStatus f),
       (0x30, .channelLoad f), (0x31, .channelAbort f), (0x32, .channelResume f), (0x33, .channelClear f),
       (0x34, .channelStatus f), (0x35, .engineStart f), (0x36, .engineQuench f), (0x40, .quiesce f), (0x41, .resume f),
       (0x42, .stop f), (0x43, .modeStatus f), (0x44, .supervisionSet f), (0x50, .noticeMask f), (0x60, .managersSet f),
       (0x61, .countersRead f), (0x62, .trackRead f), (0x63, .identRead f), (0x70, .causeRead f)]
    (∀ x ∈ codes, commandOf x.1 f = x.2) ∧ ∀ b, b ∉ codes.map Prod.fst → commandOf b f = .unknownCommand b f) ∧
  (∀ body : List Byte,
    let kind := byteAt body 0
    let pool := (byteAt body 2).extractLsb' 6 2
    let wrongLength := (byteAt body 1).toNat ≠ body.length + 2
    let zeros := (byteAt body 2).extractLsb' 0 3 ≠ 0 ∨ (byteAt body 3).extractLsb' 6 2 ≠ 0
    (body = [] ∨ (kind ≠ 1 ∧ kind ≠ 2 ∧ kind ≠ 3) ∨ (kind = 1 ∧ (body.length < 4 ∨ (pool ≠ 0 ∧ pool ≠ 1))) →
      receivedFrame (sealed body) = .frameCheckFailed) ∧
    (kind = 2 → receivedFrame (sealed body) = .idle (decide (wrongLength ∨ body.length ≠ 2))) ∧
    (kind = 3 → receivedFrame (sealed body) = .linkReset (decide (wrongLength ∨ body.length ≠ 2))) ∧
    (kind = 1 → 4 ≤ body.length →
      (pool = 0 → ∃ f : DataFrame, receivedFrame (sealed body) = .dataRequest f ∧
        f.requester.val = ((byteAt body 2).extractLsb' 3 3).toNat ∧ f.tag.val = ((byteAt body 3).extractLsb' 0 6).toNat ∧
        f.kindCode = byteAt body 4 ∧ f.length = byteAt body 5 ∧
        bytesOf f.address = [byteAt body 6, byteAt body 7, byteAt body 8, byteAt body 9] ∧
        (f.malformed = true ↔ wrongLength ∨ body.length < 10 ∨ (body.length - 10) % 4 ≠ 0 ∨ zeros)) ∧
      (pool = 1 → ∃ f : MgmtFrame, receivedFrame (sealed body) = commandOf (byteAt body 4) f ∧
        f.requester.val = ((byteAt body 2).extractLsb' 3 3).toNat ∧ f.tag.val = ((byteAt body 3).extractLsb' 0 6).toNat ∧
        (f.malformed = true ↔
          wrongLength ∨ body.length < 6 ∨ (body.length - 6) % 4 ≠ 0 ∨ zeros ∨ byteAt body 5 ≠ 0)))) ∧
  (∀ f : DataFrame, f.malformed = false → f.fits = true → receivedFrame (sealed f.bytes) = .dataRequest f) ∧
  (∀ (code : Byte) (f : MgmtFrame), f.malformed = false → f.fits = true →
    receivedFrame (sealed (f.bytes code)) = commandOf code f) ∧
  receivedFrame (sealed [2, 4]) = .idle false ∧ receivedFrame (sealed [3, 4]) = .linkReset false ∧
  (∀ (bytes : List Byte) (a b : Byte), [a, b] ≠ checkField (crc bytes) → receivedFrame (bytes ++ [a, b]) = .frameCheckFailed) ∧
  ∀ (bytes : List Byte) (progress : Option (List Byte)) (line : List LineSymbol),
    receivedLine none (.opening :: (bytes.map .byte ++ .closing :: line)) = receivedFrame bytes :: receivedLine none line ∧
    receivedLine none (.opening :: (bytes.map .byte ++ .opening :: line)) =
      .frameCheckFailed :: receivedLine none (.opening :: line) ∧
    receivedLine none (bytes.map .byte ++ line) = receivedLine none line ∧
    receivedLine none (.closing :: line) = receivedLine none line ∧
    receivedLine progress (.fill :: line) = .fill :: receivedLine progress line

/-! ## Credit and intake -/

/-- A REQUEST that finds its pool's balance at 0 is an overrun, whatever it carries: discarded, counted and reported. With credit, the
intake checks of a management command follow in their order: DENIED, TAG_IN_USE, FORMAT, UNKNOWN; a refusal is one RESPONSE with the
refusal mark and changes nothing else but the credit (R159, R163, R175). -/
def Obligations.IntakeChecksInOrder : Prop :=
  (∀ (c : Instr) (pool : Pool) (s : State), requestPool c = some pool → s.resetn = false →
    (pool = .data ∧ s.li.dataCredit = 0) ∨ (pool = .management ∧ s.li.mgmtCredit = 0) →
    exec c s = .next (s.receivedOverrun pool)) ∧
  ∀ (c : Instr) (f : MgmtFrame) (words : Option Nat) (s : State),
    managementFrame c = some (f, words) → s.resetn = false → 0 < s.li.mgmtCredit →
    (s.managers.getLsbD f.requester.val = false →
      exec c s = .next ((s.receivedMgmt f).responded (refusal f.requester f.tag .management .denied true))) ∧
    (s.managers.getLsbD f.requester.val = true → f.pair ∈ s.tags →
      exec c s = .next ((s.receivedMgmt f).responded (refusal f.requester f.tag .management .tagInUse true))) ∧
    (s.managers.getLsbD f.requester.val = true → f.pair ∉ s.tags →
      (f.malformed = true ∨ ∃ n, words = some n ∧ f.operands.length ≠ n) →
      exec c s = .next ((s.receivedMgmt f).responded (refusal f.requester f.tag .management .format true))) ∧
    (s.managers.getLsbD f.requester.val = true → f.pair ∉ s.tags → f.malformed = false → words = none →
      exec c s = .next ((s.receivedMgmt f).responded (refusal f.requester f.tag .management .unknown true)))

/-- A command whose first operand word names one record is refused BAD_INDEX when bits 7 to 0 name none, and RANGE when they name one and a
bit of bits 31 to 8 is set (R14, R92, R94 to R97, R126 to R128, R132, R167, R190; the place of RANGE is the model's choice, log 7). -/
def Obligations.IndexRefusals : Prop :=
  ∀ (c : Instr) (f : MgmtFrame) (m : Command) (words limit : Nat) (s : State),
    indexCommand c = some (f, m, words, limit) → CommandAccepted s f words →
    (limit ≤ (field (f.word 0) 0 8).toNat → exec c s = .next (s.answeredRefused f m .badIndex)) ∧
    ((field (f.word 0) 0 8).toNat < limit → 256 ≤ (f.word 0).toNat → exec c s = .next (s.answeredRefused f m .range))

/-! ## Data requests (chapters 1 and 2) -/

/-- Lookup: UNMAPPED when no LIVE or DRAINING window's current range holds the address; otherwise, for the one window that contains it,
SPANS, DENIED for the requester, DENIED for the kind, PORT_OFF, HIT, in this order (R7, R8). -/
def Obligations.LookupInOrder : Prop :=
  (∀ (w : Window) (a : Nat), w.containsAddr a = true ↔
    w.state ≠ .free ∧ w.contents.logicalBase.toNat ≤ a ∧ a < w.contents.logicalBase.toNat + w.contents.size * 0x1000) ∧
  ∀ (s : State) (r : Requester) (k : ReqKind) (a : Word) (len : Nat), 1 ≤ len →
    ((∀ i, (s.window i).containsAddr a.toNat = false) → s.lookup r k a len = .error .unmapped) ∧
    (∀ i, (s.window i).state ≠ .free → (s.window i).contents.logicalBase.toNat ≤ a.toNat →
      a.toNat < (s.window i).contents.logicalBase.toNat + (s.window i).contents.size * 0x1000 →
      (∀ j, (s.window j).containsAddr a.toNat = true → j = i) →
      s.lookup r k a len =
        if (s.window i).contents.logicalBase.toNat + (s.window i).contents.size * 0x1000 ≤ a.toNat + 4 * len - 1 then
          .error .spans
        else if (s.window i).contents.requesters.getLsbD r.val = false then .error .denied
        else if (match k with
            | .read => (s.window i).contents.mayRead
            | .write => (s.window i).contents.mayWrite
            | .swap => (s.window i).contents.maySwap) = false then .error .denied
        else if (s.port (s.window i).contents.port).state = .disabled then .error .portOff
        else .ok i)

/-- The format check refuses FORMAT exactly the data requests that R35 lists, in RUN and after a wake from STOP, and a request that passes
has an aligned address, a length of 1 to 16 words and a payload that fits its kind (R35). -/
def Obligations.FormatCheck : Prop :=
  (∀ f : DataFrame, f.body? = none ↔
    (f.malformed = true ∨ ¬ (f.kindCode = 1 ∨ f.kindCode = 2 ∨ f.kindCode = 3) ∨ f.length.toNat = 0 ∨ 16 < f.length.toNat ∨
      f.address.toNat % 4 ≠ 0 ∨ (f.kindCode = 3 ∧ f.length.toNat ≠ 1) ∨ (f.kindCode = 1 ∧ f.payload ≠ []) ∨
      (f.kindCode = 2 ∧ f.payload.length ≠ f.length.toNat) ∨ (f.kindCode = 3 ∧ f.payload.length ≠ 2))) ∧
  (∀ (f : DataFrame) (s : State), s.resetn = false → 0 < s.li.dataCredit → s.mc.mode = .run → f.pair ∉ s.tags → f.body? = none →
    exec (.dataRequest f) s = .next ((s.receivedData f).responded (refusal f.requester f.tag .data .format true))) ∧
  (∀ (f : DataFrame) (s : State), s.resetn = false → 0 < s.li.dataCredit → s.mc.mode = .stop → s.mc.wakeOnRequest = true →
    f.pair ∉ s.tags → f.body? = none →
    exec (.dataRequest f) s = .next
      (((s.receivedData f).leaveStop .wake).responded (refusal f.requester f.tag .data .format true)).followUp) ∧
  (∀ (f : DataFrame) (b : ReqBody), f.body? = some b →
    f.address.toNat % 4 = 0 ∧ 1 ≤ f.length.toNat ∧ f.length.toNat ≤ 16 ∧
    (b = .read ∨ (b = .write f.payload ∧ f.payload.length = f.length.toNat) ∨
      ∃ x y, b = .swap x y ∧ f.payload = [x, y] ∧ f.length.toNat = 1))

/-- Admission of a data request. One that passes every check is bound: its pair enters the tag set, the hit count of its window is
incremented, and its entry joins the request queue, with dispatch considered in the same event. The refusals: MODE in QUIESCING, QUIET and
STOP without wake-on-request; TAG_IN_USE; the reason lookup gives; each is one RESPONSE with the refusal mark, and nothing else changes but
the credit (R31, R32, R34, R36, R37, R42). -/
def Obligations.DataRequestAdmitted : Prop :=
  ∀ (f : DataFrame) (s : State), s.resetn = false → 0 < s.li.dataCredit →
    (∀ b i, s.mc.mode = .run → f.pair ∉ s.tags → f.body? = some b →
      s.lookup f.requester b.kind f.address f.length.toNat = .ok i →
      exec (.dataRequest f) s = .next (State.followUp
        { s.receivedData f with
          tags := s.tags ++ [f.pair]
          windows := s.windows.set i { s.window i with hitCount := (s.window i).hitCount + 1 }
          requestQueue := s.requestQueue ++
            [{ requester := f.requester, tag := f.tag, body := b, window := i, address := f.address, length := f.length.toNat }]
          mc := { s.received.mc with queueEmpty := false } })) ∧
    (s.mc.mode = .quiescing ∨ s.mc.mode = .quiet ∨ (s.mc.mode = .stop ∧ s.mc.wakeOnRequest = false) →
      exec (.dataRequest f) s = .next ((s.receivedData f).responded (refusal f.requester f.tag .data .mode true))) ∧
    (s.mc.mode = .run → f.pair ∈ s.tags →
      exec (.dataRequest f) s = .next ((s.receivedData f).responded (refusal f.requester f.tag .data .tagInUse true))) ∧
    (∀ b r, s.mc.mode = .run → f.pair ∉ s.tags → f.body? = some b →
      s.lookup f.requester b.kind f.address f.length.toNat = .error r →
      exec (.dataRequest f) s = .next ((s.receivedData f).responded (refusal f.requester f.tag .data r true)))

/-- A data request in STOP with wake-on-request set returns the mode to RUN first, with MODE_CHANGED of cause WAKE, and the ports leave
STOP: a STOPPED port becomes ACTIVE, and unless its interval is off it sets one catch-up upkeep and its interval timer restarts. The
request is then bound in the same event, or refused TAG_IN_USE, FORMAT or with the reason lookup gives (R31, R34 to R37, R91, R102,
R141). -/
def Obligations.DataRequestWakes : Prop :=
  ∀ (f : DataFrame) (s : State), s.resetn = false → 0 < s.li.dataCredit → s.mc.mode = .stop → s.mc.wakeOnRequest = true →
    ∃ w : State,
      { w with ports := s.ports } =
        { s.receivedData f with
          mc := { s.received.mc with mode := .run }
          nu := s.received.nu.raise (.modeChanged .run .stop .wake) } ∧
      (∀ p, w.port p =
        if (s.port p).state = .stopped then
          { s.port p with
            state := .active
            upkeep := { (s.port p).upkeep with
              pending := (s.port p).upkeep.pending || (s.port p).config.interval != 0
              timer :=
                if (s.port p).config.interval = 0 then none
                else some
                  { left := Config.intervalTenths (s.port p).config.interval / 10
                    remainder := Config.intervalTenths (s.port p).config.interval % 10 } } }
        else if (s.port p).state = .settling .stopped then { s.port p with state := .active }
        else s.port p) ∧
      (f.pair ∈ s.tags →
        exec (.dataRequest f) s = .next (w.responded (refusal f.requester f.tag .data .tagInUse true)).followUp) ∧
      (f.pair ∉ s.tags → f.body? = none →
        exec (.dataRequest f) s = .next (w.responded (refusal f.requester f.tag .data .format true)).followUp) ∧
      (∀ b, f.pair ∉ s.tags → f.body? = some b →
        (∀ r, s.lookup f.requester b.kind f.address f.length.toNat = .error r →
          exec (.dataRequest f) s = .next (w.responded (refusal f.requester f.tag .data r true)).followUp) ∧
        (∀ i, s.lookup f.requester b.kind f.address f.length.toNat = .ok i →
          exec (.dataRequest f) s = .next (State.followUp
            { w with
              tags := s.tags ++ [f.pair]
              windows := s.windows.set i { s.window i with hitCount := (s.window i).hitCount + 1 }
              requestQueue := s.requestQueue ++
                [{ requester := f.requester, tag := f.tag, body := b, window := i, address := f.address, length := f.length.toNat }]
              mc := { w.mc with queueEmpty := false } })))

/-- A logical address inside the range of a valid contents translates to physical base plus its offset, which stays below 10000000H
together with the rest of the range (R2, R3, R44). -/
def Obligations.TranslationStaysInTheSegment : Prop :=
  ∀ (c : Contents) (a : Word), c.valid = true → c.logicalBase.toNat ≤ a.toNat →
    a.toNat < c.logicalBase.toNat + c.size * 0x1000 →
    (c.translate a).toNat = c.physicalBase.toNat + (a.toNat - c.logicalBase.toNat) ∧
    (c.translate a).toNat < c.physicalBase.toNat + c.size * 0x1000 ∧
    c.physicalBase.toNat + c.size * 0x1000 ≤ 0x10000000 ∧
    c.untranslate (c.translate a) = a

/-- An entry is dispatchable under the four conditions of R41; it passes the re-check of R25 when its first and last bytes lie in the new
range, its kind in the new rights, its requester in the new set, and the new port is not DISABLED. Dispatch moves the oldest dispatchable
entry into the free tracking entry with the lowest index; the use count rises by 1, and a WRITE through a POSTED window is answered OK; the
queue is considered again until no entry is dispatchable; DISPATCH as a command does the same, and leaves the state as it is when no entry
is dispatchable, the model's choice, log 1 (R25, R41 to R45). -/
def Obligations.DispatchOfTheOldest : Prop :=
  (∀ (s : State) (e : QueueEntry), s.dispatchable e = true ↔
    (s.window e.window).state = .live ∧ (∃ i, ∀ x ∈ s.tracking, x.index ≠ i) ∧
    (s.port (s.window e.window).contents.port).state ≠ .held ∧
    (s.port (s.window e.window).contents.port).state ≠ .settling .held ∧
    (s.port (s.window e.window).contents.port).state ≠ .resetting ∧
    ((s.window e.window).contents.strict = true → (s.window e.window).useCount = 0)) ∧
  (∀ (e : QueueEntry) (c : Contents) (disabled : Bool), 1 ≤ e.length →
    (e.passes c disabled = true ↔
      c.logicalBase.toNat ≤ e.address.toNat ∧
      e.address.toNat + 4 * e.length - 1 < c.logicalBase.toNat + c.size * 0x1000 ∧
      (match e.body with
        | .read => c.mayRead
        | .write _ => c.mayWrite
        | .swap _ _ => c.maySwap) = true ∧
      c.requesters.getLsbD e.requester.val = true ∧ disabled = false)) ∧
  (∀ s : State, (∀ x ∈ s.requestQueue, s.dispatchable x = false) → s.dispatchAll = s ∧ exec .dispatch s = .next s) ∧
  ∀ (s t : State) (pre post : List QueueEntry) (e : QueueEntry) (i : TrackIdx),
    s.requestQueue = pre ++ e :: post → (∀ x ∈ pre, s.dispatchable x = false) → s.dispatchable e = true →
    (∀ x ∈ s.tracking, x.index ≠ i) → (∀ j, j < i → ∃ x ∈ s.tracking, x.index = j) →
    t =
      { s with
        requestQueue := pre ++ post
        tracking := s.tracking ++
          [{ index := i, requester := e.requester, tag := e.tag, body := e.body, window := e.window
             port := (s.window e.window).contents.port
             physAddr := (s.window e.window).contents.translate e.address
             length := e.length
             posted := e.body.kind == .write && (s.window e.window).contents.posted
             state := .waiting
             phase := match e.body with
               | .swap _ _ => some .readHalf
               | _ => none
             retries := 0 }]
        windows := s.windows.set e.window { s.window e.window with useCount := (s.window e.window).useCount + 1 }
        mc := { s.mc with queueEmpty := (pre ++ post).isEmpty, trackingEmpty := false }
        li := if e.body.kind = .write ∧ (s.window e.window).contents.posted = true then
            { s.li with responses := s.li.responses ++ [okResponse e.requester e.tag .data []] }
          else s.li } →
    s.dispatchAll = t.dispatchAll ∧ exec .dispatch s = .next t.followUp

/-! ## Window commands (chapter 1) -/

/-- WINDOW LOAD: BAD_INDEX, NOT_FREE, RANGE, OVERLAP in this order; then the window is LIVE with the supplied contents, use count and hit
count 0. A window record gives a contents exactly when its bits marked zero are zero and the contents in its fields is valid; a window
reserves its current range, and its pending range while it drains toward a replacement; ranges meet when they share an address. That the
RANGE of R190 for bits marked zero stands behind NOT_FREE, at the RANGE check of R15, is the model's choice, log 7 (R2, R3, R10, R14, R15,
R190). -/
def Obligations.WindowLoad : Prop :=
  (∀ c : Contents, c.valid = true ↔
    c.logicalBase.toNat % 0x1000 = 0 ∧ c.logicalBase.toNat + c.size * 0x1000 ≤ 0x100000000 ∧ 1 ≤ c.size ∧ c.size ≤ 65536 ∧
      c.physicalBase.toNat % 0x1000 = 0 ∧ c.physicalBase.toNat + c.size * 0x1000 ≤ 0x10000000) ∧
  (∀ (w0 w1 w2 w3 : Word) (c : Contents), windowRecord w0 w1 w2 w3 = some c ↔
    w0 &&& 0x00000F00 = 0 ∧ w2 &&& 0xFFFCC800 = 0 ∧ w3 = 0 ∧
      c.logicalBase = w0 &&& 0xFFFFF000 ∧ c.physicalBase.toNat = (field w1 16 16).toNat * 0x1000 ∧
      c.size = (field w1 0 16).toNat + 1 ∧ c.requesters = field w2 0 8 ∧ c.mayRead = bit w2 8 ∧ c.mayWrite = bit w2 9 ∧
      c.maySwap = bit w2 10 ∧ c.port.val = (field w2 12 2).toNat ∧ c.posted = bit w2 16 ∧ c.strict = bit w2 17 ∧
      c.logicalBase.toNat + c.size * 0x1000 ≤ 0x100000000 ∧ c.physicalBase.toNat + c.size * 0x1000 ≤ 0x10000000) ∧
  (∀ (w : Window) (r : Nat × Nat), r ∈ w.reserved ↔
    (w.state ≠ .free ∧ r = w.contents.range) ∨
      (w.state = .draining ∧ ∃ c l, w.pending = some ⟨.replacement c, l⟩ ∧ r = c.range)) ∧
  (∀ c : Contents, c.range = (c.logicalBase.toNat, c.logicalBase.toNat + c.size * 0x1000)) ∧
  (∀ a b : Nat × Nat, rangesMeet a b = true ↔ a.1 < b.2 ∧ b.1 < a.2) ∧
  ∀ (f : MgmtFrame) (s : State), CommandAccepted s f 4 →
    (32 ≤ (field (f.word 0) 0 8).toNat →
      exec (.windowLoad f) s = .next (s.answeredRefused f .windowLoad .badIndex)) ∧
    ∀ i : WindowIdx, (field (f.word 0) 0 8).toNat = i.val →
      ((s.window i).state ≠ .free → exec (.windowLoad f) s = .next (s.answeredRefused f .windowLoad .notFree)) ∧
      ((s.window i).state = .free → windowRecord (f.word 0) (f.word 1) (f.word 2) (f.word 3) = none →
        exec (.windowLoad f) s = .next (s.answeredRefused f .windowLoad .range)) ∧
      (∀ c, (s.window i).state = .free → windowRecord (f.word 0) (f.word 1) (f.word 2) (f.word 3) = some c →
        (∃ j, ∃ r ∈ (s.window j).reserved, rangesMeet c.range r = true) →
        exec (.windowLoad f) s = .next (s.answeredRefused f .windowLoad .overlap)) ∧
      (∀ c, (s.window i).state = .free → windowRecord (f.word 0) (f.word 1) (f.word 2) (f.word 3) = some c →
        (∀ j, ∀ r ∈ (s.window j).reserved, rangesMeet c.range r = false) →
        exec (.windowLoad f) s = .next
          { s.answeredOk f .windowLoad [] with
            windows := s.windows.set i { state := .live, contents := c, useCount := 0, hitCount := 0, pending := none } })

/-- WINDOW REPLACE and WINDOW CLOSE of a LIVE window with use count 0 and no deferred operation act at once. REPLACE: LIVE with the new
contents and hit count 0; the queue entries bound to it that fail the re-check leave the queue, oldest first. CLOSE: FREE with its contents
and hit count kept; every queue entry bound to it leaves. OK is answered behind their REMAPPED answers, and dispatch is considered in the
same event (R16, R17, R19, R25, R42). -/
def Obligations.WindowChangeAtOnce : Prop :=
  ∀ (f : MgmtFrame) (s : State) (i : WindowIdx) (keep gone : List QueueEntry),
    (field (f.word 0) 0 8).toNat = i.val → (s.window i).state = .live → (s.window i).useCount = 0 → s.deferred = none →
    (∀ c, CommandAccepted s f 5 → windowRecord (f.word 0) (f.word 1) (f.word 2) (f.word 3) = some c → f.word 4 ≠ 0 →
      (f.word 4).toNat ≤ 255 → (∀ j, j ≠ i → ∀ r ∈ (s.window j).reserved, rangesMeet c.range r = false) →
      keep = s.requestQueue.filter (fun e => e.window != i || e.passes c ((s.port c.port).state == .disabled)) →
      gone = s.requestQueue.filter (fun e => e.window == i && !e.passes c ((s.port c.port).state == .disabled)) →
      exec (.windowReplace f) s = .next (State.followUp
        { s.answeredOk f .windowReplace [] with
          windows := s.windows.set i { s.window i with state := .live, contents := c, hitCount := 0, pending := none }
          requestQueue := keep
          mc := { s.received.mc with queueEmpty := keep.isEmpty }
          li := { (s.receivedMgmt f).li with
            responses := s.li.responses ++ gone.map (fun e => refusal e.requester e.tag .data .remapped false) ++
              [okResponse f.requester f.tag .management []] } })) ∧
    (CommandAccepted s f 1 → field (f.word 0) 8 8 ≠ 0 → (f.word 0).toNat < 0x10000 →
      keep = s.requestQueue.filter (fun e => e.window != i) → gone = s.requestQueue.filter (fun e => e.window == i) →
      exec (.windowClose f) s = .next (State.followUp
        { s.answeredOk f .windowClose [] with
          windows := s.windows.set i { s.window i with state := .free, pending := none }
          requestQueue := keep
          mc := { s.received.mc with queueEmpty := keep.isEmpty }
          li := { (s.receivedMgmt f).li with
            responses := s.li.responses ++ gone.map (fun e => refusal e.requester e.tag .data .remapped false) ++
              [okResponse f.requester f.tag .management []] } }))

/-- WINDOW REPLACE and WINDOW CLOSE of a LIVE window with tracked accesses start a drain: the window is DRAINING with its pending record and
drain limit, the deferred window operation holds the timer in µs, and the answer is deferred (R18, R20, R21, R161). -/
def Obligations.DrainStart : Prop :=
  ∀ (f : MgmtFrame) (s : State) (i : WindowIdx), (field (f.word 0) 0 8).toNat = i.val → (s.window i).state = .live →
    (s.window i).useCount ≠ 0 → s.deferred = none →
    (∀ c, CommandAccepted s f 5 → windowRecord (f.word 0) (f.word 1) (f.word 2) (f.word 3) = some c → f.word 4 ≠ 0 →
      (f.word 4).toNat ≤ 255 → (∀ j, j ≠ i → ∀ r ∈ (s.window j).reserved, rangesMeet c.range r = false) →
      exec (.windowReplace f) s = .next
        { s.answerDeferred f .windowReplace with
          windows := s.windows.set i
            { s.window i with
              state := .draining, pending := some { change := .replacement c, drainLimit := (f.word 4).setWidth 8 } }
          deferred := some
            { index := i, requester := f.requester, tag := f.tag, timer := (f.word 4).toNat * 1000 } }) ∧
    (CommandAccepted s f 1 → field (f.word 0) 8 8 ≠ 0 → (f.word 0).toNat < 0x10000 →
      exec (.windowClose f) s = .next
        { s.answerDeferred f .windowClose with
          windows := s.windows.set i
            { s.window i with state := .draining, pending := some { change := .close, drainLimit := field (f.word 0) 8 8 } }
          deferred := some
            { index := i, requester := f.requester, tag := f.tag, timer := (field (f.word 0) 8 8).toNat * 1000 } })

/-- WINDOW REPLACE and WINDOW CLOSE are refused BAD_INDEX, NOT_LIVE, BUSY and RANGE in this order, and WINDOW REPLACE then OVERLAP. That the
RANGE of R190 for bits 31 to 8 of WINDOW REPLACE's word 4 and bits 31 to 16 of WINDOW CLOSE's word stands at the rule's own RANGE check is
the model's choice, log 7 (R14, R16, R19, R190). -/
def Obligations.WindowChangeRefused : Prop :=
  ∀ (f : MgmtFrame) (s : State),
    (∀ (c : Instr) (m : Command) (n : Nat),
      (c = .windowReplace f ∧ m = .windowReplace ∧ n = 5) ∨ (c = .windowClose f ∧ m = .windowClose ∧ n = 1) →
      CommandAccepted s f n →
      (32 ≤ (field (f.word 0) 0 8).toNat → exec c s = .next (s.answeredRefused f m .badIndex)) ∧
      ∀ i : WindowIdx, (field (f.word 0) 0 8).toNat = i.val →
        ((s.window i).state = .free → exec c s = .next (s.answeredRefused f m .notLive)) ∧
        ((s.window i).state = .draining ∨ ((s.window i).state = .live ∧ s.deferred ≠ none) →
          exec c s = .next (s.answeredRefused f m .busy))) ∧
    ∀ i : WindowIdx, (field (f.word 0) 0 8).toNat = i.val → (s.window i).state = .live → s.deferred = none →
      (CommandAccepted s f 5 →
        (windowRecord (f.word 0) (f.word 1) (f.word 2) (f.word 3) = none ∨ f.word 4 = 0 ∨ 255 < (f.word 4).toNat →
          exec (.windowReplace f) s = .next (s.answeredRefused f .windowReplace .range)) ∧
        ∀ c, windowRecord (f.word 0) (f.word 1) (f.word 2) (f.word 3) = some c → f.word 4 ≠ 0 → (f.word 4).toNat ≤ 255 →
          (∃ j, j ≠ i ∧ ∃ r ∈ (s.window j).reserved, rangesMeet c.range r = true) →
          exec (.windowReplace f) s = .next (s.answeredRefused f .windowReplace .overlap)) ∧
      (CommandAccepted s f 1 → field (f.word 0) 8 8 = 0 ∨ 0x10000 ≤ (f.word 0).toNat →
        exec (.windowClose f) s = .next (s.answeredRefused f .windowClose .range))

/-- The end of a drain. When the use count of the DRAINING window of the deferred operation is 0, the change is installed, the operation
ends, and the deferred OK follows the REMAPPED answers: in the event that brings the use count to 0, as part of the end of the entry, and by
INSTALL_REPLACEMENT and INSTALL_CLOSE as commands. DRAIN_TIMER_EXPIRY on a window still DRAINING, when the timer has run out: LIVE with its
current contents, the operation ends, and the deferred answer is FAULT DRAIN_EXPIRED. That an install that is not due leaves the state as it
is, is the model's choice, log 1; that DRAIN_TIMER_EXPIRY with time left does so, its reading, log 3 (R11, R23 to R27, R71). -/
def Obligations.DrainEnds : Prop :=
  ∀ (s t : State) (d : DeferredOp) (l : BitVec 8) (keep gone : List QueueEntry), s.deferred = some d →
    (s.window d.index).state = .draining →
    (∀ c, (s.window d.index).useCount = 0 → (s.window d.index).pending = some ⟨.replacement c, l⟩ →
      keep = s.requestQueue.filter (fun e => e.window != d.index || e.passes c ((s.port c.port).state == .disabled)) →
      gone = s.requestQueue.filter (fun e => e.window == d.index && !e.passes c ((s.port c.port).state == .disabled)) →
      t =
        { s with
          deferred := none
          windows := s.windows.set d.index
            { s.window d.index with state := .live, contents := c, hitCount := 0, pending := none }
          requestQueue := keep
          mc := { s.mc with queueEmpty := keep.isEmpty }
          li := { s.li with
            responses := s.li.responses ++ gone.map (fun e => refusal e.requester e.tag .data .remapped false) ++
              [okResponse d.requester d.tag .management []] }
          mgmtQueue := s.mgmtQueue.map (DeferredOp.answeredEntry d) } →
      s.installPending = t ∧ exec .installReplacement s = .next t.followUp) ∧
    ((s.window d.index).useCount = 0 → (s.window d.index).pending = some ⟨.close, l⟩ →
      keep = s.requestQueue.filter (fun e => e.window != d.index) →
      gone = s.requestQueue.filter (fun e => e.window == d.index) →
      t =
        { s with
          deferred := none
          windows := s.windows.set d.index { s.window d.index with state := .free, pending := none }
          requestQueue := keep
          mc := { s.mc with queueEmpty := keep.isEmpty }
          li := { s.li with
            responses := s.li.responses ++ gone.map (fun e => refusal e.requester e.tag .data .remapped false) ++
              [okResponse d.requester d.tag .management []] }
          mgmtQueue := s.mgmtQueue.map (DeferredOp.answeredEntry d) } →
      s.installPending = t ∧ exec .installClose s = .next t.followUp) ∧
    ((s.window d.index).useCount ≠ 0 →
      s.installPending = s ∧ exec .installReplacement s = .next s ∧ exec .installClose s = .next s) ∧
    (d.timer = 0 →
      exec .drainTimerExpiry s = .next (State.followUp
        { s with
          deferred := none
          windows := s.windows.set d.index { s.window d.index with state := .live, pending := none }
          li := { s.li with
            responses := s.li.responses ++
              [{ okResponse d.requester d.tag .management [] with status := .fault .drainExpired }] }
          mgmtQueue := s.mgmtQueue.map (DeferredOp.answeredEntry d) })) ∧
    (d.timer ≠ 0 → exec .drainTimerExpiry s = .next s)

/-- WINDOW FIND answers the index of the LIVE or DRAINING window whose current range contains the byte address, or FFH for NONE; it
changes nothing (R29). -/
def Obligations.WindowFind : Prop :=
  ∀ (f : MgmtFrame) (s : State), CommandAccepted s f 1 →
    (∀ i : WindowIdx, (s.window i).state ≠ .free → (s.window i).contents.logicalBase.toNat ≤ (f.word 0).toNat →
      (f.word 0).toNat < (s.window i).contents.logicalBase.toNat + (s.window i).contents.size * 0x1000 →
      (∀ j, (s.window j).containsAddr (f.word 0).toNat = true → j = i) →
      exec (.windowFind f) s = .next (s.answeredOk f .windowFind [BitVec.ofNat 32 i.val])) ∧
    ((∀ i : WindowIdx, (s.window i).state = .free ∨ (f.word 0).toNat < (s.window i).contents.logicalBase.toNat ∨
        (s.window i).contents.logicalBase.toNat + (s.window i).contents.size * 0x1000 ≤ (f.word 0).toNat) →
      exec (.windowFind f) s = .next (s.answeredOk f .windowFind [0xFF]))

/-- The reads that answer with an image and change nothing: WINDOW READ, PORT STATUS, CHANNEL STATUS, MODE STATUS, TRACK READ, CAUSE READ.
The image is of the state in which the command is taken; the rank in a tracking image is the number of entries dispatched before it (log 14)
(R28, R97, R132, R147, R167, R189). -/
def Obligations.StatusReads : Prop :=
  (∀ (s : State) (older younger : List TrackEntry) (e : TrackEntry),
    s.tracking = older ++ e :: younger → (∀ x ∈ older, x.index ≠ e.index) →
    s.entry? e.index = some e ∧ s.rankOf e.index = older.length) ∧
  ∀ (f : MgmtFrame) (s : State),
    (∀ i : WindowIdx, CommandAccepted s f 1 → f.word 0 = BitVec.ofNat 32 i.val →
      exec (.windowRead f) s = .next (s.answeredOk f .windowRead ((s.window i).image i))) ∧
    (∀ p : PortId, CommandAccepted s f 1 → f.word 0 = BitVec.ofNat 32 p.val →
      exec (.portStatus f) s = .next (s.answeredOk f .portStatus (s.port p).statusImage)) ∧
    (∀ c : ChannelId, CommandAccepted s f 1 → f.word 0 = BitVec.ofNat 32 c.val →
      exec (.channelStatus f) s = .next (s.answeredOk f .channelStatus (s.channelImage c))) ∧
    (CommandAccepted s f 0 → exec (.modeStatus f) s = .next (s.answeredOk f .modeStatus s.received.modeImage)) ∧
    (∀ i : TrackIdx, CommandAccepted s f 1 → f.word 0 = BitVec.ofNat 32 i.val →
      (∀ e, s.entry? i = some e →
        exec (.trackRead f) s = .next (s.answeredOk f .trackRead (s.trackImage e (s.rankOf i)))) ∧
      (s.entry? i = none → exec (.trackRead f) s = .next (s.answeredOk f .trackRead [0]))) ∧
    (CommandAccepted s f 0 → exec (.causeRead f) s = .next (s.answeredOk f .causeRead s.cause.words))

/-- IDENT READ answers the family code 4D47H, the part code 3104H and revision level 1, and changes nothing (R168). -/
def Obligations.IdentRead : Prop :=
  ∀ (f : MgmtFrame) (s : State), CommandAccepted s f 0 →
    exec (.identRead f) s = .next (s.answeredOk f .identRead [0x4D473104, 1])

/-- The window image carries every field that R28 lists, in the bits of 12.4, for a valid contents and a use count within its range
(R28). -/
def Obligations.WindowImageCarriesItsFields : Prop :=
  ∀ (w : Window) (i : WindowIdx), w.contents.valid = true → w.useCount ≤ 16 →
    ∃ w0 w1 w2 w3, w.image i = [w0, w1, w2, w3, w.hitCount] ∧
      w0 &&& 0xFFFFF000 = w.contents.logicalBase ∧ (field w0 0 8).toNat = i.val ∧
      (field w1 16 16).setWidth 28 <<< 12 = w.contents.physicalBase ∧ (field w1 0 16).toNat + 1 = w.contents.size ∧
      field w2 0 8 = w.contents.requesters ∧ bit w2 8 = w.contents.mayRead ∧ bit w2 9 = w.contents.mayWrite ∧
      bit w2 10 = w.contents.maySwap ∧ (field w2 12 2).toFin = w.contents.port ∧ bit w2 16 = w.contents.posted ∧
      bit w2 17 = w.contents.strict ∧
      (field w3 0 2).toNat =
        (match w.state with
          | .free => 0
          | .live => 1
          | .draining => 2) ∧
      (field w3 2 2).toNat =
        (match w.pending with
          | none => 0
          | some ⟨.replacement _, _⟩ => 1
          | some ⟨.close, _⟩ => 2) ∧
      (∀ r, w.pending = some r → field w3 8 8 = r.drainLimit) ∧ (field w3 16 5).toNat = w.useCount

/-- The port status image and the counter blocks carry every field that R97 and R165 list, in the bits of 12.4; the order of the four
line levels in bits 7 to 4 is the model's (log 16). The upkeep in flight has used at most 15 retries. -/
def Obligations.PortImagesCarryTheirFields : Prop :=
  (∀ p : Port, ∃ w0 w1 w2 w3,
    p.statusImage =
      [w0, w1, w2, w3, p.counters.issued, p.counters.timeouts, p.counters.late, p.counters.retries, p.counters.stray] ∧
    (field w0 0 3).toNat =
      (match p.state with
        | .disabled => 0
        | .active => 1
        | .settling _ => 2
        | .held => 3
        | .stopped => 4
        | .resetting => 5) ∧
    bit w0 3 = decide (p.state = .settling .stopped) ∧
    bit w0 7 = p.holdRequest ∧ bit w0 6 = (decide (p.state = .held) || (decide (p.state = .disabled) && p.holdRequest)) ∧
    bit w0 5 = p.pace ∧ bit w0 4 = decide (p.state = .resetting) ∧
    bit w0 8 = p.stallReport ∧ bit w0 9 = decide (p.turn = .copy) ∧ bit w0 15 = p.lock.isSome ∧
    (∀ i, p.lock = some i → (field w0 16 4).toNat = i.val) ∧
    field w1 4 3 = p.config.accessTimeout ∧ field w1 8 4 = p.config.retryLimit ∧ field w1 16 8 = p.config.resetPulse ∧
    field w1 24 8 = p.config.holdLimit ∧ field w2 0 4 = p.config.interval ∧ field w2 16 11 = p.config.rowLimit ∧
    ∀ k : SlotId, (field w3 (8 * k.val) 8).toNat =
      match p.slot k with
      | .free => 0
      | .lingering => 2
      | .issued (.tracking i) _ _ => 1 + 16 * i.val
      | .issued .upkeep _ _ => 5
      | .issued (.copy c .read) _ _ => 9 + 16 * c.val
      | .issued (.copy c .write) _ _ => 41 + 16 * c.val
      | .issued .boot _ _ => 13) ∧
  (∀ p : Port, (∀ a, p.upkeep.inFlight = some a → a.retries ≤ 15) → ∃ w9 w10,
    p.counterBlock =
      [p.counters.issued, p.counters.timeouts, p.counters.late, p.counters.retries, p.counters.stray,
       p.upkeep.done, p.upkeep.missed, p.upkeep.suppressed, p.upkeep.failed, w9, w10] ∧
    bit w9 15 = p.upkeep.lastFailedRow.isNone ∧ (∀ r, p.upkeep.lastFailedRow = some r → field w9 0 10 = r) ∧
    field w9 16 10 = p.upkeep.rowCounter ∧ bit w9 31 = p.upkeep.pending ∧
    (p.upkeep.inFlight = none → w10 = 0) ∧
    ∀ a, p.upkeep.inFlight = some a →
      bit w10 31 = true ∧ field w10 0 10 = a.row ∧ (field w10 16 4).toNat = a.retries ∧ bit w10 20 = decide (a.state = .waiting)) ∧
  ∀ l : LinkInterface, l.counterBlock = [l.checkErrors, l.overruns, l.malformed]

/-- The images of a channel, of a tracking entry, of the Mode Controller and of the Cause Record carry every field that R132, R167, R147
and R189 list, in the bits of 12.4, for counts within their ranges. -/
def Obligations.RecordImagesCarryTheirFields : Prop :=
  (∀ (s : State) (c : ChannelId),
    (∀ d, (s.channel c).current.map CurrentCopy.desc = some d ∨ (s.channel c).pending = some d → 1 ≤ d.count ∧ d.count ≤ 65536) →
    (∀ u, (s.channel c).unit = some u → u.retries ≤ 15) →
    ∃ w0 c0 c1 c2 p0 p1 p2 r a b, s.channelImage c = [w0, c0, c1, c2, p0, p1, p2, r, a, b, 0, 0] ∧
      (field w0 0 3).toNat =
        (match (s.channel c).state with
          | .idle => 0
          | .running => 1
          | .paused => 2
          | .faulted => 3
          | .aborting => 4) ∧
      bit w0 4 = s.engineEnable ∧ bit w0 5 = (s.channel c).current.isSome ∧ bit w0 6 = (s.channel c).pending.isSome ∧
      bit w0 7 = (s.channel c).permit ∧
      (∀ cur line sense, (s.channel c).current = some cur → cur.desc.pacing = .paced line sense → bit w0 8 = (s.port line).pace) ∧
      ((s.channel c).unit = none → (field w0 10 2).toNat = 0) ∧
      (∀ cur u, (s.channel c).current = some cur → (s.channel c).unit = some u →
        (field w0 10 2).toNat = (if u.phase.half = .read then 1 else 2) ∧
        (field w0 12 2).toNat =
          (match u.half with
            | .ready => 0
            | .issued _ => 1
            | .waiting => 2) ∧
        (field w0 16 2).toNat = (if u.phase.half = .read then cur.desc.srcPort.val else cur.desc.dstPort.val) ∧
        (∀ k, u.half = .issued k → (field w0 18 2).toNat = k.val) ∧ (field w0 20 4).toNat = u.retries) ∧
      ((s.channel c).lastFault = none → (field w0 25 7).toNat = 0) ∧
      (∀ x, (s.channel c).lastFault = some x →
        bit w0 24 = decide (x.half = .write) ∧ (field w0 25 7).toNat = x.reason.code) ∧
      (∀ x y z d, (x = c0 ∧ y = c1 ∧ z = c2 ∧ (s.channel c).current.map CurrentCopy.desc = some d) ∨
          (x = p0 ∧ y = p1 ∧ z = p2 ∧ (s.channel c).pending = some d) →
        field x 0 28 = d.srcAddr ∧ (field x 28 2).toNat = d.srcPort.val ∧
        (field x 30 2).toNat =
          (match d.srcStep with
            | .up => 0
            | .down => 1
            | .hold => 2) ∧
        field y 0 28 = d.dstAddr ∧ (field y 28 2).toNat = d.dstPort.val ∧
        (field y 30 2).toNat =
          (match d.dstStep with
            | .up => 0
            | .down => 1
            | .hold => 2) ∧
        (field z 0 16).toNat + 1 = d.count ∧
        (field z 16 2).toNat =
          (match d.pacing with
            | .continuous => 0
            | .yielding => 1
            | .paced _ _ => 2) ∧
        (∀ line sense, d.pacing = .paced line sense →
          (field z 18 2).toNat = line.val ∧ bit z 20 = decide (sense = .edge)) ∧
        ((∀ line sense, d.pacing ≠ .paced line sense) → field z 18 3 = 0) ∧ bit z 24 = d.notify) ∧
      ((s.channel c).pending = none → [p0, p1, p2] = [0, 0, 0]) ∧
      ((s.channel c).current = none → [c0, c1, c2, r, a, b] = [0, 0, 0, 0, 0, 0]) ∧
      ∀ cur, (s.channel c).current = some cur → cur.remaining ≤ 65536 →
        r.toNat = cur.remaining ∧ field a 0 28 = cur.src ∧ field b 0 28 = cur.dst) ∧
  (∀ (s : State) (e : TrackEntry) (rank : Nat), e.length ≤ 16 → e.retries ≤ 15 → rank ≤ 15 →
    ∃ w0 w1 w2 w3, s.trackImage e rank = [w0, w1, w2, w3] ∧
      bit w0 31 = true ∧ (field w0 24 3).toNat = e.requester.val ∧ (field w0 16 6).toNat = e.tag.val ∧
      (field w0 12 2).toNat =
        (match e.body with
          | .read => 1
          | .write _ => 2
          | .swap _ _ => 3) ∧
      (field w0 7 5).toNat = e.window.val ∧ (field w0 5 2).toNat = e.port.val ∧ bit w0 4 = e.posted ∧
      (e.state = .waiting → bit w0 3 = false ∧ w3 = 0) ∧
      (∀ k, e.state = .issued k → bit w0 3 = true ∧ (field w0 0 2).toNat = k.val ∧
        ∀ h cmd x, (s.port e.port).slot k = .issued h cmd x → x < 2 ^ 32 → w3.toNat = x) ∧
      bit w0 2 = decide (∃ old, e.phase = some (.writeHalf old)) ∧
      field w1 0 28 = e.physAddr ∧ (field w2 0 5).toNat = e.length ∧ (field w2 8 4).toNat = e.retries ∧
      (field w2 16 4).toNat = rank) ∧
  (∀ s : State, ∃ w0 w1 w2, s.modeImage = [w0, w1, w2] ∧
    (field w0 0 4).toNat =
      (match s.mc.mode with
        | .booting => 0
        | .run => 1
        | .quiescing => 2
        | .quiet => 3
        | .stop => 4) ∧
    bit w0 4 = s.mc.stopOnQuiet ∧
    (field w0 5 2).toNat =
      (match s.mc.timer with
        | .off => 0
        | .running _ => 1
        | .expired => 2) ∧
    bit w0 7 = s.mc.wakeOnRequest ∧ bit w0 8 = s.mc.queueEmpty ∧ bit w0 9 = s.mc.trackingEmpty ∧ bit w0 10 = s.mc.unitsInFlight ∧
    bit w0 11 = s.engineEnable ∧ field w1 0 8 = s.mc.period ∧
    (∀ x, s.mc.timer = .running x → x / 1000 < 2 ^ 32 → w2.toNat = x / 1000)) ∧
  ∀ r : CauseRecord, r.resetCount ≤ 65535 →
    ∃ w0 w1, r.words = [w0, w1] ∧
      (field w0 0 2).toNat =
        (match r.last with
          | .powerOn => 1
          | .pin => 2
          | .link => 3) ∧
      (field w0 2 2).toNat =
        (match r.previous with
          | none => 0
          | some .powerOn => 1
          | some .pin => 2
          | some .link => 3) ∧
      (field w0 8 4).toNat =
        (match r.modeAtReset with
          | none => 15
          | some .booting => 0
          | some .run => 1
          | some .quiescing => 2
          | some .quiet => 3
          | some .stop => 4) ∧
      (field w0 16 16).toNat = r.resetCount ∧
      w1.toNat =
        (match r.bootResult with
          | .notRun => 0
          | .absent => 1
          | .rejectedFormat => 2
          | .rejectedCheck => 3
          | .rejectedAccess => 4
          | .loaded => 5)

/-! ## Segment ports and tracking entries (chapters 3 and 4) -/

/-- ISSUE of the upstream entry that the arbiter has chosen: ISSUED in the head free slot with the access command of its kind and phase and
a fresh issue timer; a SWAP takes the lock; the turn becomes COPY (R54, R66, R78, R84, R85). -/
def Obligations.IssueOfTheUpstreamEntry : Prop :=
  ∀ (s : State) (p : PortId) (e : TrackEntry) (k : SlotId) (ks : List SlotId),
    s.arbiterChoice p = some (.upstream e) → (s.port p).freeOrder = k :: ks →
    exec (.issue p) s = .next (State.followUp
      { s with
        tracking := s.tracking.map fun x => if x.index = e.index then { x with state := .issued k } else x
        ports := s.ports.set p
          { (s.port p).issued k ks (.tracking e.index)
              (match e.body, e.phase with
                | .read, _ => .read e.physAddr e.length
                | .write d, _ => .write e.physAddr d
                | .swap _ n, some (.writeHalf _) => .write e.physAddr [n]
                | .swap _ _, _ => .read e.physAddr 1) with
            lock := match e.body with
              | .swap _ _ => some e.index
              | _ => (s.port p).lock
            turn := .copy } })

/-- The arbiter of a port: nothing outside ACTIVE; under a SWAP lock only the entry that holds it; otherwise the upkeep, the hold request,
the boot read on P0, a waiting SWAP read half, CONTINUOUS copy halves, and the shared turn, in this order. Its candidates: the port's WAITING
tracking entry with the oldest dispatch order (the list holds them in that order, log 14); of the copy halves offered to the port
(CopyHalfIssueAndPace says which), CONTINUOUS ones apart from the others, that of C0 before that of C1; a boot read in BOOTING that is new or
WAITING; a WAITING upkeep, otherwise the pending one. That no arbiter serves anything while RESETN is asserted is read from R182's "no segment
access is issued", log 6 (R82 to R86, R104, R116, R182). -/
def Obligations.ArbiterOrder : Prop :=
  ∀ (s : State) (p : PortId),
    (∀ e, s.oldestWaiting p = some e ↔
      ∃ older younger, s.tracking = older ++ e :: younger ∧ e.port = p ∧ e.state = .waiting ∧
        ∀ x ∈ older, ¬ (x.port = p ∧ x.state = .waiting)) ∧
    (∀ i e, s.entry? i = some e ↔
      ∃ older younger, s.tracking = older ++ e :: younger ∧ e.index = i ∧ ∀ x ∈ older, x.index ≠ i) ∧
    (∀ b c, s.copyReady p b = some c ↔
      (s.offersTo c p = true ∧ (s.channel c).continuous = b) ∧
        (c = 1 → ¬ (s.offersTo 0 p = true ∧ (s.channel 0).continuous = b))) ∧
    (∀ c, (s.channel c).continuous = true ↔ ∃ cur, (s.channel c).current = some cur ∧ cur.desc.pacing = .continuous) ∧
    (s.bootOffers = true ↔
      s.mc.mode = .booting ∧ s.boot.phase ≠ .finished ∧ ∀ r, s.boot.inFlight = some r → r.state = .waiting) ∧
    ((s.port p).upkeep.offers = true ↔
      (∃ a, (s.port p).upkeep.inFlight = some a ∧ a.state = .waiting) ∨
        ((s.port p).upkeep.inFlight = none ∧ (s.port p).upkeep.pending = true)) ∧
    ((s.port p).anyIssued = true ↔ ∃ k h cmd x, (s.port p).slot k = .issued h cmd x) ∧
    (s.resetn = true ∨ (s.port p).state ≠ .active → s.arbiterChoice p = none) ∧
    (s.resetn = false → (s.port p).state = .active →
      (∀ i, (s.port p).lock = some i →
        (∀ e, s.entry? i = some e → e.state = .waiting → (s.port p).freeOrder ≠ [] →
          s.arbiterChoice p = some (.upstream e)) ∧
        ((∀ e, s.entry? i = some e → e.state ≠ .waiting) ∨ (s.port p).freeOrder = [] → s.arbiterChoice p = none)) ∧
      ((s.port p).lock = none →
        ((s.port p).freeOrder ≠ [] → (s.port p).upkeep.offers = true → s.arbiterChoice p = some .upkeep) ∧
        ((s.port p).freeOrder = [] ∨ (s.port p).upkeep.offers = false → (s.port p).holdRequest = true →
          s.arbiterChoice p = some .hold) ∧
        ((s.port p).holdRequest = false → (s.port p).freeOrder = [] → s.arbiterChoice p = none) ∧
        ((s.port p).upkeep.offers = false → (s.port p).holdRequest = false → (s.port p).freeOrder ≠ [] →
          (p = 0 → s.bootOffers = true → s.arbiterChoice p = some .boot) ∧
          (p ≠ 0 ∨ s.bootOffers = false →
            (∀ e, s.oldestWaiting p = some e → e.phase = some .readHalf →
              s.arbiterChoice p = if (s.port p).anyIssued then none else some (.upstream e)) ∧
            ((∀ e, s.oldestWaiting p = some e → e.phase ≠ some .readHalf) →
              (∀ c, s.copyReady p true = some c → s.arbiterChoice p = some (.copy c)) ∧
              (s.copyReady p true = none →
                (∀ c, (s.port p).turn = .copy ∨ s.oldestWaiting p = none → s.copyReady p false = some c →
                  s.arbiterChoice p = some (.copy c)) ∧
                (∀ e, (s.port p).turn = .upstream ∨ s.copyReady p false = none → s.oldestWaiting p = some e →
                  s.arbiterChoice p = some (.upstream e)) ∧
                (s.copyReady p false = none → s.oldestWaiting p = none → s.arbiterChoice p = none)))))))

/-- A completion for the entry that holds the slot: READ and WRITE end OK, a READ with another number of words and an ERROR end FAULT
SEGMENT_ERROR; a RETRY within the retry limit is counted, the slot is freed and the entry is WAITING in its place in dispatch order,
and one beyond it ends the entry FAULT BUSY; a posted WRITE ends without a RESPONSE, or with POSTED_FAULT. The install and the dispatch that
the end allows come about in the same event (R42, R57 to R60, R69 to R71). -/
def Obligations.EntryCompletes : Prop :=
  ∀ (s : State) (p : PortId) (k : SlotId) (e : TrackEntry) (data : List Word), EntryInSlot s p k e →
    (e.body = .read → e.posted = false → data.length = e.length →
      exec (.completion p k .ok data) s = .next
        (((s.slotFreed p k).entryGone p e).responded (okResponse e.requester e.tag .data data)).afterEnd) ∧
    (e.body = .read → data.length ≠ e.length →
      exec (.completion p k .ok data) s = .next
        (((s.slotFreed p k).entryGone p e).faultAnswered s e .segmentError).afterEnd) ∧
    (∀ d, e.body = .write d → e.posted = false →
      exec (.completion p k .ok data) s = .next
        (((s.slotFreed p k).entryGone p e).responded (okResponse e.requester e.tag .data [])).afterEnd) ∧
    (∀ d, e.body = .write d → e.posted = true →
      exec (.completion p k .ok data) s = .next ((s.slotFreed p k).entryGone p e).afterEnd) ∧
    exec (.completion p k .error data) s = .next
      (((s.slotFreed p k).entryGone p e).faultAnswered s e .segmentError).afterEnd ∧
    (e.retries < (s.port p).config.retryLimit.toNat →
      exec (.completion p k .retry data) s = .next (State.followUp
        { s.slotRetried p k with
          tracking := s.tracking.map fun x =>
            if x.index = e.index then { x with state := .waiting, retries := x.retries + 1 } else x })) ∧
    ((s.port p).config.retryLimit.toNat ≤ e.retries →
      exec (.completion p k .retry data) s = .next
        (((s.slotRetried p k).entryGone p e).faultAnswered s e .busy).afterEnd)

/-- A SWAP. The read half compares all 32 bits: if they differ it ends OK with the old value and swapped no; if they are equal the write half
is issued in the same slot with a fresh timer. The write half ends OK with the old value and swapped yes (R58, R66, R67, R98). -/
def Obligations.SwapHalves : Prop :=
  ∀ (s : State) (p : PortId) (k : SlotId) (e : TrackEntry) (data : List Word) (compare new : Word), EntryInSlot s p k e →
    e.body = .swap compare new → e.posted = false →
    (∀ w, e.phase = some .readHalf → data = [w] → w ≠ compare →
      exec (.completion p k .ok data) s = .next
        (((s.slotFreed p k).entryGone p e).responded
          { okResponse e.requester e.tag .data [w] with swapped := some false }).afterEnd) ∧
    (e.phase = some .readHalf → data = [compare] →
      exec (.completion p k .ok data) s = .next (State.followUp
        { s with
          tracking := s.tracking.map fun x =>
            if x.index = e.index then { x with phase := some (.writeHalf compare) } else x
          ports := s.ports.set p
            ((s.port p).issued k (s.port p).freeOrder (.tracking e.index) (.write e.physAddr [new])) })) ∧
    (e.phase = some .readHalf → data.length ≠ 1 →
      exec (.completion p k .ok data) s = .next
        (((s.slotFreed p k).entryGone p e).responded (e.faultResponse .segmentError)).afterEnd) ∧
    (∀ old, e.phase = some (.writeHalf old) →
      exec (.completion p k .ok data) s = .next
        (((s.slotFreed p k).entryGone p e).responded
          { okResponse e.requester e.tag .data [old] with swapped := some true }).afterEnd)

/-- Timeouts, late and stray completions. An issue timer that has run out for an entry ends it FAULT TIMEOUT, its slot lingers, the timeout
is counted, and the stall test follows; that ISSUE_TIMER_EXPIRY of a slot that is not ISSUED or has time left leaves the state as it is, is
the model's reading, log 3. A completion for a LINGERING slot frees it, is counted late,
clears the stall report and raises LATE_COMPLETION; for a free slot it is counted and reported stray; while RESETTING it is only counted
late. The fourth LINGERING slot raises PORT_STALLED unless the stall report is set (R61, R64, R65, R71, R76, R77, R79). -/
def Obligations.TimeoutsLateAndStrayCompletions : Prop :=
  (∀ x : Slot, x.expired = true ↔ ∃ h cmd, x = .issued h cmd 0) ∧
  ∀ (s : State) (p : PortId) (k : SlotId) (st : CompletionStatus) (data : List Word),
    (∀ e, EntryInSlot s p k e → ((s.port p).slot k).expired = true →
      exec (.issueTimerExpiry p k) s = .next
        (((((s.slotTimedOut p k).entryGone p e).faultAnswered s e .timeout).installPending.dispatchAll).stallTest p).followUp) ∧
    (((s.port p).slot k).expired = false → exec (.issueTimerExpiry p k) s = .next s) ∧
    (s.resetn = false → (s.port p).state = .resetting →
      exec (.completion p k st data) s = .next
        { s with
          ports := s.ports.set p
            { s.port p with counters := { (s.port p).counters with late := (s.port p).counters.late + 1 } } }) ∧
    (s.resetn = false → (s.port p).state ≠ .resetting → (s.port p).slot k = .lingering →
      exec (.completion p k st data) s = .next (State.followUp
        { s with
          ports := s.ports.set p
            { s.port p with
              slots := (s.port p).slots.set k .free
              freeOrder := (s.port p).freeOrder ++ [k]
              counters := { (s.port p).counters with late := (s.port p).counters.late + 1 }
              stallReport := false }
          nu := s.nu.raise (.lateCompletion p k) })) ∧
    (s.resetn = false → (s.port p).state ≠ .resetting → (s.port p).slot k = .free →
      exec (.completion p k st data) s = .next
        { s with
          ports := s.ports.set p
            { s.port p with counters := { (s.port p).counters with stray := (s.port p).counters.stray + 1 } }
          nu := s.nu.raise (.strayCompletion p k) }) ∧
    ((∀ j, (s.port p).slot j = .lingering) → (s.port p).stallReport = false →
      s.stallTest p =
        { s with
          ports := s.ports.set p { s.port p with stallReport := true }
          nu := s.nu.raise (.portStalled p) }) ∧
    ((∃ j, (s.port p).slot j ≠ .lingering) ∨ (s.port p).stallReport = true → s.stallTest p = s)

/-- PORT CONFIGURE stores all six settings, or none when one is outside its values (RANGE), and the Upkeep Sequencer acts on the interval and
the row limit; PORT ENABLE takes a DISABLED port to HELD, STOPPED or ACTIVE; PORT DISABLE is refused STATE, then BUSY, and otherwise
clears the stall report and the upkeep. A port record gives a configuration exactly when its bits marked zero are zero and its fields lie in
the values of R94, and the codes of the access timeout and of the interval stand for the times of R94 in its order (R94, R95, R96, R100,
R103, R108, R109, R190). -/
def Obligations.PortSettings : Prop :=
  (∀ (a b : Word) (c : PortConfig), portRecord a b = some c ↔
    a &&& 0x0000F08C = 0 ∧ b &&& 0xF800FFF0 = 0 ∧
      c.accessTimeout = field a 4 3 ∧ c.retryLimit = field a 8 4 ∧ c.resetPulse = field a 16 8 ∧ c.holdLimit = field a 24 8 ∧
      c.interval = field b 0 4 ∧ c.rowLimit = field b 16 11 ∧
      1 ≤ c.resetPulse.toNat ∧ c.interval.toNat ≤ 8 ∧ 1 ≤ c.rowLimit.toNat ∧ c.rowLimit.toNat ≤ 1024) ∧
  ([0, 1, 2, 3, 4, 5, 6, 7].map Config.accessTimeoutMicros = [16, 64, 256, 1000, 4000, 16000, 64000, 256000] ∧
    [0, 1, 2, 3, 4, 5, 6, 7, 8].map Config.intervalTenths = [0, 78, 156, 312, 625, 1250, 2500, 5000, 10000]) ∧
  ∀ (f : MgmtFrame) (s : State) (p : PortId),
    (∀ c, CommandAccepted s f 3 → f.word 0 = BitVec.ofNat 32 p.val → field (f.word 1) 0 2 = 0 →
      portRecord (f.word 1) (f.word 2) = some c →
      exec (.portConfigure f) s = .next
        { s.answeredOk f .portConfigure [] with
          ports := s.ports.set p
            { s.port p with
              config := c
              upkeep := { (s.port p).upkeep with
                rowCounter := if c.rowLimit = (s.port p).config.rowLimit then (s.port p).upkeep.rowCounter else 0
                timer :=
                  if c.interval = (s.port p).config.interval then (s.port p).upkeep.timer
                  else if c.interval = 0 ∨ (s.port p).state = .disabled ∨ (s.port p).state = .stopped then none
                  else some
                    { left := Config.intervalTenths c.interval / 10
                      remainder := Config.intervalTenths c.interval % 10 } } } }) ∧
    (CommandAccepted s f 3 → f.word 0 = BitVec.ofNat 32 p.val →
      field (f.word 1) 0 2 ≠ 0 ∨ portRecord (f.word 1) (f.word 2) = none →
      exec (.portConfigure f) s = .next (s.answeredRefused f .portConfigure .range)) ∧
    (CommandAccepted s f 1 → f.word 0 = BitVec.ofNat 32 p.val →
      ((s.port p).state = .disabled →
        exec (.portEnable f) s = .next (State.followUp
          { s.answeredOk f .portEnable [] with
            ports := s.ports.set p
              { s.port p with
                state := if (s.port p).holdRequest then .held else if s.mc.mode = .stop then .stopped else .active
                slots := #v[.free, .free, .free, .free]
                freeOrder := [0, 1, 2, 3]
                holdTimer :=
                  if (s.port p).holdRequest then
                    (if (s.port p).config.holdLimit = 0 then none else some ((s.port p).config.holdLimit.toNat * 1000))
                  else (s.port p).holdTimer
                upkeep := { (s.port p).upkeep with
                  timer :=
                    if (s.port p).holdRequest = false ∧ s.mc.mode = .stop then (s.port p).upkeep.timer
                    else if (s.port p).config.interval = 0 then none
                    else some
                      { left := Config.intervalTenths (s.port p).config.interval / 10
                        remainder := Config.intervalTenths (s.port p).config.interval % 10 } } } })) ∧
      ((s.port p).state ≠ .disabled → exec (.portEnable f) s = .next (s.answeredRefused f .portEnable .state)) ∧
      ((s.port p).state ≠ .active → (s.port p).state ≠ .stopped →
        exec (.portDisable f) s = .next (s.answeredRefused f .portDisable .state)) ∧
      ((s.port p).state = .active ∨ (s.port p).state = .stopped →
        (∃ e ∈ s.requestQueue, (s.window e.window).contents.port = p) ∨ (∃ e ∈ s.tracking, e.port = p) ∨
          (∃ c, (s.channel c).names p = true) ∨ (∃ k, (s.port p).slot k ≠ .free) ∨ (s.port p).upkeep.inFlight ≠ none →
        exec (.portDisable f) s = .next (s.answeredRefused f .portDisable .busy)) ∧
      ((s.port p).state = .active ∨ (s.port p).state = .stopped →
        (∀ e ∈ s.requestQueue, (s.window e.window).contents.port ≠ p) → (∀ e ∈ s.tracking, e.port ≠ p) →
        (∀ c, (s.channel c).names p = false) → (∀ k, (s.port p).slot k = .free) → (s.port p).upkeep.inFlight = none →
        exec (.portDisable f) s = .next
          { s.answeredOk f .portDisable [] with
            ports := s.ports.set p
              { s.port p with
                state := .disabled
                stallReport := false
                upkeep := { (s.port p).upkeep with
                  timer := none
                  pending := false
                  missed :=
                    if (s.port p).upkeep.pending then (s.port p).upkeep.missed + 1 else (s.port p).upkeep.missed } } }))

/-- PORT RESET of an ACTIVE, SETTLING or STOPPED port, in the order of R92: the port is RESETTING with its pulse timer; its tracking
entries end FAULT PORT_RESET, oldest dispatch first, each with the install and the dispatch that its end allows; its slots, SWAP lock,
stall report and pending upkeep are cleared and its upkeep in flight is counted failed; copy halves on it end, channel 0 before channel
1; configuration and counters are kept; the answer is deferred. With no drain and no queue entry this is: one FAULT RESPONSE for each
entry, one POSTED_FAULT for each posted one, use counts less, and the tracking report. HELD and DISABLED are refused STATE, RESETTING
BUSY (R42, R69, R71, R74, R92, R102, R103, R125, R129). -/
def Obligations.PortReset : Prop :=
  ∀ (f : MgmtFrame) (s : State) (p : PortId), CommandAccepted s f 1 → f.word 0 = BitVec.ofNat 32 p.val →
    ((s.port p).state = .held ∨ (s.port p).state = .disabled →
      exec (.portReset f) s = .next (s.answeredRefused f .portReset .state)) ∧
    ((s.port p).state = .resetting → exec (.portReset f) s = .next (s.answeredRefused f .portReset .busy)) ∧
    ∀ begun ended cleared : State,
      begun =
        { s.answerDeferred f .portReset with
          ports := s.ports.set p
            { s.port p with
              state := .resetting
              pulse := some { timer := (s.port p).config.resetPulse.toNat, answerTo := some f.pair } } } →
      ended = (s.tracking.filter fun e => e.port == p).foldl (fun t e => t.entryReset p e) begun →
      cleared =
        { ended with
          ports := s.ports.set p
            { s.port p with
              state := .resetting
              pulse := some { timer := (s.port p).config.resetPulse.toNat, answerTo := some f.pair }
              slots := #v[.free, .free, .free, .free]
              freeOrder := [0, 1, 2, 3]
              lock := none
              stallReport := false
              turn := .upstream
              upkeep := { (s.port p).upkeep with
                timer :=
                  if (s.port p).state = .stopped then
                    (if (s.port p).config.interval = 0 then none
                    else some
                      { left := Config.intervalTenths (s.port p).config.interval / 10
                        remainder := Config.intervalTenths (s.port p).config.interval % 10 })
                  else (s.port p).upkeep.timer
                pending := false
                missed := if (s.port p).upkeep.pending then (s.port p).upkeep.missed + 1 else (s.port p).upkeep.missed
                inFlight := none
                failed :=
                  if (s.port p).upkeep.inFlight = none then (s.port p).upkeep.failed else (s.port p).upkeep.failed + 1
                lastFailedRow := match (s.port p).upkeep.inFlight with
                  | none => (s.port p).upkeep.lastFailedRow
                  | some a => some a.row } } } →
      ((s.port p).state = .active ∨ (s.port p).state = .stopped ∨ (∃ x, (s.port p).state = .settling x) →
        exec (.portReset f) s = .next ((cleared.halfReset p 0).halfReset p 1).followUp) ∧
      (UseCountLaw s → s.requestQueue = [] → s.deferred = none →
        { ended with
            ports := s.ports, windows := s.windows, tracking := s.tracking, li := s.li, nu := s.nu
            mc := { ended.mc with trackingEmpty := true } } =
          { s.answerDeferred f .portReset with
            ports := s.ports, li := s.li, nu := s.nu, mc := { s.received.mc with trackingEmpty := true } } ∧
        ended.tracking = s.tracking.filter (fun e => e.port != p) ∧
        ((∃ e ∈ s.tracking, e.port = p) → ended.mc.trackingEmpty = ended.tracking.isEmpty) ∧
        (∀ i, ended.window i =
          { s.window i with
            useCount := (s.window i).useCount - s.tracking.countP fun e => e.port == p && e.window == i }) ∧
        ended.li =
          { (s.receivedMgmt f).li with
            responses := s.li.responses ++
              (s.tracking.filter fun e => e.port == p && !e.posted).map fun e => e.faultResponse .portReset } ∧
        ended.nu = ((s.tracking.filter fun e => e.port == p && e.posted).map fun e => s.faultNotice e .portReset).foldl
          NoticeUnit.raise s.received.nu)

/-- Hold handover, the ends of settling and the end of a reset pulse. HOLD_TAKEN: the port settles toward HELD. PORT_BECOMES_HELD: HELD with
its hold limit timer, a pending upkeep counted suppressed. PORT_BECOMES_STOPPED: STOPPED with a pending upkeep counted missed and the
interval timer halted, and HELD at once under a hold request. The hold request line: a STOPPED port becomes HELD at once; a release takes a
HELD port to ACTIVE, or STOPPED in mode STOP, and a port settling toward HELD back. HOLD_LIMIT_EXPIRY raises HOLD_OVERLONG. The end of a
pulse: ACTIVE, or STOPPED in mode STOP and then HELD at once under a hold request; the deferred OK is built unless a link reset has
abandoned it. That HOLD_LIMIT_EXPIRY and RESET_PULSE_EXPIRY leave the state as it is while no such timer has run out is the model's reading,
log 3; that an edge of the hold request line to the level it has already does so, its choice, log 4 (R83, R87 to R91, R93, R102). -/
def Obligations.HoldHandover : Prop :=
  ∀ (s : State) (p : PortId),
    let q := s.port p
    let holdTimer := if q.config.holdLimit = 0 then none else some (q.config.holdLimit.toNat * 1000)
    let interval :=
      if q.config.interval = 0 then none
      else some
        ({ left := Config.intervalTenths q.config.interval / 10
           remainder := Config.intervalTenths q.config.interval % 10 } : IntervalTimer)
    (s.arbiterChoice p = some .hold →
      exec (.holdTaken p) s = .next (State.followUp { s with ports := s.ports.set p { q with state := .settling .held } })) ∧
    (q.state = .settling .held → q.anyIssued = false →
      exec (.portBecomesHeld p) s = .next (State.followUp
        { s with
          ports := s.ports.set p
            { q with
              state := .held
              holdTimer := holdTimer
              upkeep := { q.upkeep with
                pending := false
                suppressed := if q.upkeep.pending then q.upkeep.suppressed + 1 else q.upkeep.suppressed } } })) ∧
    (q.state = .settling .stopped → q.anyIssued = false →
      exec (.portBecomesStopped p) s = .next (State.followUp
        { s with
          ports := s.ports.set p
            { q with
              state := if q.holdRequest then .held else .stopped
              holdTimer := if q.holdRequest then holdTimer else q.holdTimer
              upkeep := { q.upkeep with
                pending := false
                missed := if q.upkeep.pending then q.upkeep.missed + 1 else q.upkeep.missed
                timer := if q.holdRequest then interval else none } } })) ∧
    (q.holdRequest = false →
      exec (.holdRequestAsserted p) s = .next (State.followUp
        { s with
          ports := s.ports.set p
            (if q.state = .stopped then
              { q with
                holdRequest := true, state := .held, holdTimer := holdTimer, upkeep := { q.upkeep with timer := interval } }
            else { q with holdRequest := true }) })) ∧
    (q.holdRequest = true → exec (.holdRequestAsserted p) s = .next s) ∧
    (q.holdRequest = false → exec (.holdRequestDeasserted p) s = .next s) ∧
    (q.holdRequest = true →
      exec (.holdRequestDeasserted p) s = .next (State.followUp
        { s with
          ports := s.ports.set p
            (if q.state = .held ∧ s.mc.mode = .stop then
              { q with
                holdRequest := false, state := .stopped, holdTimer := none, upkeep := { q.upkeep with timer := none } }
            else if q.state = .held then { q with holdRequest := false, state := .active, holdTimer := none }
            else if q.state = .settling .held then
              { q with holdRequest := false, state := if s.mc.mode = .stop then .settling .stopped else .active }
            else { q with holdRequest := false }) })) ∧
    (q.state = .held → q.holdTimer = some 0 →
      exec (.holdLimitExpiry p) s = .next
        { s with
          ports := s.ports.set p { q with holdTimer := none }
          nu := s.nu.raise (.holdOverlong p) }) ∧
    (q.state ≠ .held ∨ q.holdTimer ≠ some 0 → exec (.holdLimitExpiry p) s = .next s) ∧
    (q.state ≠ .resetting ∨ (∀ a, q.pulse ≠ some { timer := 0, answerTo := a }) → exec (.resetPulseExpiry p) s = .next s) ∧
    ∀ a : Option Pair, q.state = .resetting → q.pulse = some { timer := 0, answerTo := a } →
      exec (.resetPulseExpiry p) s = .next (State.followUp
        { s with
          ports := s.ports.set p
            (if s.mc.mode = .stop then
              { q with
                state := if q.holdRequest then .held else .stopped
                pulse := none
                holdTimer := if q.holdRequest then holdTimer else q.holdTimer
                upkeep := { q.upkeep with
                  pending := false
                  missed := if q.upkeep.pending then q.upkeep.missed + 1 else q.upkeep.missed
                  timer := if q.holdRequest then interval else none } }
            else { q with state := .active, pulse := none })
          li := match a with
            | some x => { s.li with responses := s.li.responses ++ [okResponse x.1 x.2 .management []] }
            | none => s.li
          mgmtQueue := match a with
            | some x => s.mgmtQueue.map fun e =>
                if (e.requester, e.tag) = x ∧ e.phase = .deferred then { e with phase := .answered } else e
            | none => s.mgmtQueue })

/-! ## Upkeep (chapter 5) -/

/-- UPKEEP_ISSUE issues the pending upkeep with the row counter's row, which advances and wraps at the row limit, or the WAITING one again;
UPKEEP_EXPIRY, when the interval timer has run out, restarts it with its remainder and sets the pending upkeep, or counts missed, or in
HELD suppressed, and the arbiter is considered; a completion ends the upkeep in flight as done or failed, or returns it to WAITING; a
timeout fails it. A RETRY with retries used above a limit lowered meanwhile fails it as one at the limit does: the model's choice, log 11.
That UPKEEP_EXPIRY with time left or with no timer running leaves the state as it is, is its reading, log 3 (R84, R100, R101, R104 to
R108). -/
def Obligations.UpkeepAccesses : Prop :=
  ∀ (s : State) (p : PortId),
    let u := (s.port p).upkeep
    let failing := fun (a : UpkeepAccess) =>
      { u with failed := u.failed + 1, lastFailedRow := some a.row, inFlight := none }
    (∀ k ks, s.arbiterChoice p = some .upkeep → (s.port p).freeOrder = k :: ks → u.inFlight = none →
      exec (.upkeepIssue p) s = .next (State.followUp
        { s with
          ports := s.ports.set p
            { (s.port p).issued k ks .upkeep (.upkeep u.rowCounter) with
              upkeep := { u with
                pending := false
                inFlight := some { row := u.rowCounter, retries := 0, state := .issued }
                rowCounter :=
                  if u.rowCounter.toNat + 1 < (s.port p).config.rowLimit.toNat then u.rowCounter + 1 else 0 } } })) ∧
    (∀ k ks a, s.arbiterChoice p = some .upkeep → (s.port p).freeOrder = k :: ks → u.inFlight = some a →
      exec (.upkeepIssue p) s = .next (State.followUp
        { s with
          ports := s.ports.set p
            { (s.port p).issued k ks .upkeep (.upkeep a.row) with
              upkeep := { u with inFlight := some { a with state := .issued } } } })) ∧
    (∀ r, u.timer = some { left := 0, remainder := r } →
      exec (.upkeepExpiry p) s = .next (State.followUp
        { s with
          ports := s.ports.set p
            { s.port p with
              upkeep := { u with
                timer := some
                  { left := (Config.intervalTenths (s.port p).config.interval + r) / 10
                    remainder := (Config.intervalTenths (s.port p).config.interval + r) % 10 }
                suppressed := if (s.port p).state = .held then u.suppressed + 1 else u.suppressed
                missed := if (s.port p).state ≠ .held ∧ u.pending = true then u.missed + 1 else u.missed
                pending := if (s.port p).state = .held then u.pending else true } } })) ∧
    ((∀ r, u.timer ≠ some { left := 0, remainder := r }) → exec (.upkeepExpiry p) s = .next s) ∧
    (∀ k a data, HeldSlot s p k .upkeep → u.inFlight = some a →
      exec (.completion p k .ok data) s = .next (State.followUp
        { s with
          ports := s.ports.set p
            { (s.slotFreed p k).port p with upkeep := { u with inFlight := none, done := u.done + 1 } } }) ∧
      exec (.completion p k .error data) s = .next (State.followUp
        { s with
          ports := s.ports.set p { (s.slotFreed p k).port p with upkeep := failing a }
          nu := s.nu.raise (.upkeepFailed p a.row) }) ∧
      (a.retries < (s.port p).config.retryLimit.toNat →
        exec (.completion p k .retry data) s = .next (State.followUp
          { s with
            ports := s.ports.set p
              { (s.slotRetried p k).port p with
                upkeep := { u with inFlight := some { a with retries := a.retries + 1, state := .waiting } } } })) ∧
      ((s.port p).config.retryLimit.toNat ≤ a.retries →
        exec (.completion p k .retry data) s = .next (State.followUp
          { s with
            ports := s.ports.set p { (s.slotRetried p k).port p with upkeep := failing a }
            nu := s.nu.raise (.upkeepFailed p a.row) })) ∧
      (((s.port p).slot k).expired = true → exec (.issueTimerExpiry p k) s = .next (State.followUp
        (State.stallTest
          { s with
            ports := s.ports.set p { (s.slotTimedOut p k).port p with upkeep := failing a }
            nu := s.nu.raise (.upkeepFailed p a.row) } p))))

/-! ## The Copy Engine (chapter 6) -/

/-- What a channel offers to a port (R116), the issue of the half that the arbiter has chosen (R117), and a change of a pace line, whose
edge sets the permit of an EDGE-paced descriptor on it (R122, R123). -/
def Obligations.CopyHalfIssueAndPace : Prop :=
  ∀ (s : State) (c : ChannelId) (p : PortId),
    (s.offersTo c p = true ↔
      (s.channel c).state = .running ∧ ∃ cur, (s.channel c).current = some cur ∧
        (((s.channel c).unit = none ∧ s.engineEnable = true ∧ cur.desc.srcPort = p ∧
            match cur.desc.pacing with
            | .continuous => True
            | .yielding => True
            | .paced line .level => (s.port line).pace = true
            | .paced _ .edge => (s.channel c).permit = true) ∨
          (∃ r, (s.channel c).unit = some ⟨.readHalf, .waiting, r⟩ ∧ cur.desc.srcPort = p) ∨
          (∃ w r, (s.channel c).unit = some ⟨.writeHalf w, .ready, r⟩ ∧ cur.desc.dstPort = p) ∨
          ∃ w r, (s.channel c).unit = some ⟨.writeHalf w, .waiting, r⟩ ∧ cur.desc.dstPort = p)) ∧
    (∀ cur k ks, s.arbiterChoice p = some (.copy c) → (s.port p).freeOrder = k :: ks → (s.channel c).current = some cur →
      ((s.channel c).unit = none →
        exec (.copyHalfIssue p) s = .next (State.followUp
          { s with
            channels := s.channels.set c
              { s.channel c with
                unit := some { phase := .readHalf, half := .issued k, retries := 0 }
                permit := match cur.desc.pacing with
                  | .paced _ .edge => false
                  | _ => (s.channel c).permit }
            ports := s.ports.set p
              { (s.port p).issued k ks (.copy c .read) (.read cur.src 1) with
                turn := if cur.desc.pacing = .continuous then (s.port p).turn else .upstream }
            mc := { s.mc with unitsInFlight := true } })) ∧
      (∀ x r, (s.channel c).unit = some ⟨.readHalf, x, r⟩ →
        exec (.copyHalfIssue p) s = .next (State.followUp
          { s with
            channels := s.channels.set c { s.channel c with unit := some ⟨.readHalf, .issued k, r⟩ }
            ports := s.ports.set p
              { (s.port p).issued k ks (.copy c .read) (.read cur.src 1) with
                turn := if cur.desc.pacing = .continuous then (s.port p).turn else .upstream }
            mc := { s.mc with unitsInFlight := true } })) ∧
      (∀ w x r, (s.channel c).unit = some ⟨.writeHalf w, x, r⟩ →
        exec (.copyHalfIssue p) s = .next (State.followUp
          { s with
            channels := s.channels.set c { s.channel c with unit := some ⟨.writeHalf w, .issued k, r⟩ }
            ports := s.ports.set p
              { (s.port p).issued k ks (.copy c .write) (.write cur.dst [w]) with
                turn := if cur.desc.pacing = .continuous then (s.port p).turn else .upstream }
            mc := { s.mc with unitsInFlight := true } }))) ∧
    ∀ level, ∃ t : State, exec (.paceLineChange p level) s = .next t.followUp ∧
      { t with channels := s.channels } = { s with ports := s.ports.set p { s.port p with pace := level } } ∧
      ∀ d, t.channel d =
        if level = true ∧ (s.port p).pace = false ∧
            (∃ cur, (s.channel d).current = some cur ∧ cur.desc.pacing = .paced p .edge) then
          { s.channel d with permit := true }
        else s.channel d

/-- The end of a copy half. A read half OK with one word makes the write half READY; a write half OK counts the unit, and the channel
goes on, pauses by the engine enable, or ends its descriptor with COPY_DONE and the promotion of the pending one; an ERROR, a read with
another number of words, exhausted retries and a timeout fault the channel; in ABORTING every end makes it IDLE with COPY_ABORTED. A
RETRY with retries used above a limit lowered meanwhile faults the channel as one at the limit does: the model's choice, log 11 (R112,
R118 to R121, R124, R129). -/
def Obligations.CopyHalfEnds : Prop :=
  ∀ (s : State) (p : PortId) (k : SlotId) (c : ChannelId) (h : Half) (cur : CurrentCopy) (u : CopyUnit) (data : List Word),
    HalfInSlot s p k c h cur u →
    ((s.channel c).state ≠ .aborting →
      (∀ w, h = .read → data = [w] →
        exec (.completion p k .ok data) s = .next (State.followUp
          { s.slotFreed p k with
            channels := s.channels.set c
              { s.channel c with unit := some { phase := .writeHalf w, half := .ready, retries := 0 } } })) ∧
      (h = .read → data.length ≠ 1 →
        exec (.completion p k .ok data) s = .next ((s.slotFreed p k).channelFaulted c h cur .segmentError).followUp) ∧
      (h = .write → 1 < cur.remaining →
        exec (.completion p k .ok data) s = .next (State.followUp
          ((s.slotFreed p k).channelEnded c
            { s.channel c with
              state := if s.engineEnable then .running else .paused
              unit := none
              current := some
                { cur with
                  remaining := cur.remaining - 1
                  src := match cur.desc.srcStep with
                    | .up => cur.src + 4
                    | .down => cur.src - 4
                    | .hold => cur.src
                  dst := match cur.desc.dstStep with
                    | .up => cur.dst + 4
                    | .down => cur.dst - 4
                    | .hold => cur.dst } }))) ∧
      (h = .write → cur.remaining = 1 → (s.channel c).pending = none →
        exec (.completion p k .ok data) s = .next (State.followUp
          { (s.slotFreed p k).channelEnded c Channel.initial with
            nu := if cur.desc.notify then s.nu.raise (.copyDone c cur.desc.count) else s.nu })) ∧
      (∀ d, h = .write → cur.remaining = 1 → (s.channel c).pending = some d →
        exec (.completion p k .ok data) s = .next (State.followUp
          { (s.slotFreed p k).channelEnded c
              { state := if s.engineEnable then .running else .paused
                current := some { desc := d, remaining := d.count, src := d.srcAddr, dst := d.dstAddr }
                pending := none
                unit := none
                permit := match cur.desc.pacing, d.pacing with
                  | .paced a .edge, .paced b .edge => (s.channel c).permit && decide (a = b)
                  | _, _ => false
                lastFault := none } with
            nu := if cur.desc.notify then s.nu.raise (.copyDone c cur.desc.count) else s.nu })) ∧
      exec (.completion p k .error data) s = .next ((s.slotFreed p k).channelFaulted c h cur .segmentError).followUp ∧
      (u.retries < (s.port p).config.retryLimit.toNat →
        exec (.completion p k .retry data) s = .next (State.followUp
          { s.slotRetried p k with
            channels := s.channels.set c
              { s.channel c with unit := some { u with half := .waiting, retries := u.retries + 1 } } })) ∧
      ((s.port p).config.retryLimit.toNat ≤ u.retries →
        exec (.completion p k .retry data) s = .next ((s.slotRetried p k).channelFaulted c h cur .busy).followUp) ∧
      (((s.port p).slot k).expired = true →
        exec (.issueTimerExpiry p k) s = .next (((s.slotTimedOut p k).channelFaulted c h cur .timeout).stallTest p).followUp)) ∧
    ((s.channel c).state = .aborting →
      (∀ st, st ≠ .retry →
        exec (.completion p k st data) s = .next (State.followUp
          { (s.slotFreed p k).channelEnded c Channel.initial with
            nu := s.nu.raise
              (.copyAborted c (if h = .write ∧ st = .ok then cur.remaining - 1 else cur.remaining)) })) ∧
      exec (.completion p k .retry data) s = .next (State.followUp
        { (s.slotRetried p k).channelEnded c Channel.initial with nu := s.nu.raise (.copyAborted c cur.remaining) }) ∧
      (((s.port p).slot k).expired = true →
        exec (.issueTimerExpiry p k) s = .next (State.followUp
          (State.stallTest
            { (s.slotTimedOut p k).channelEnded c Channel.initial with nu := s.nu.raise (.copyAborted c cur.remaining) } p))))

/-- CHANNEL LOAD: BAD_INDEX, STATE, BUSY, RANGE, PORT_OFF in this order; then the descriptor becomes current in IDLE, RUNNING or PAUSED by
the engine enable, and pending in the other states, and the arbiters are considered. That the RANGE of R190 for bits 31 to 8 of the channel
word stands at the descriptor's RANGE check is the model's choice, log 7. Three words give a descriptor exactly when every code names a
value, the bits marked zero are zero, and both sides' runs are aligned and stay inside the segment; a descriptor names its source and
destination ports, and the pace line's port if it is PACED (R96, R113, R114, R190). -/
def Obligations.ChannelLoad : Prop :=
  (∀ (x y z : Word) (d : Descriptor), descriptorWords x y z = some d ↔
    z &&& 0xFEE00000 = 0 ∧
      d.srcAddr = field x 0 28 ∧ d.srcPort.val = (field x 28 2).toNat ∧
      (field x 30 2).toNat =
        (match d.srcStep with
          | .up => 0
          | .down => 1
          | .hold => 2) ∧
      d.dstAddr = field y 0 28 ∧ d.dstPort.val = (field y 28 2).toNat ∧
      (field y 30 2).toNat =
        (match d.dstStep with
          | .up => 0
          | .down => 1
          | .hold => 2) ∧
      d.count = (field z 0 16).toNat + 1 ∧
      (field z 16 2).toNat =
        (match d.pacing with
          | .continuous => 0
          | .yielding => 1
          | .paced _ _ => 2) ∧
      (∀ line sense, d.pacing = .paced line sense →
        line.val = (field z 18 2).toNat ∧ bit z 20 = decide (sense = .edge)) ∧
      d.notify = bit z 24 ∧
      d.srcAddr.toNat % 4 = 0 ∧ d.dstAddr.toNat % 4 = 0 ∧
      (match d.srcStep with
        | .up => d.srcAddr.toNat + 4 * (d.count - 1) ≤ 0x0FFFFFFC
        | .down => 4 * (d.count - 1) ≤ d.srcAddr.toNat
        | .hold => True) ∧
      (match d.dstStep with
        | .up => d.dstAddr.toNat + 4 * (d.count - 1) ≤ 0x0FFFFFFC
        | .down => 4 * (d.count - 1) ≤ d.dstAddr.toNat
        | .hold => True)) ∧
  (∀ (d : Descriptor) (p : PortId), d.names p = true ↔ d.srcPort = p ∨ d.dstPort = p ∨ ∃ sense, d.pacing = .paced p sense) ∧
  (∀ (ch : Channel) (p : PortId), ch.names p = true ↔
    (∃ cur, ch.current = some cur ∧ cur.desc.names p = true) ∨ ∃ d, ch.pending = some d ∧ d.names p = true) ∧
  ∀ (f : MgmtFrame) (s : State), CommandAccepted s f 4 →
    (2 ≤ (field (f.word 0) 0 8).toNat → exec (.channelLoad f) s = .next (s.answeredRefused f .channelLoad .badIndex)) ∧
    ∀ c : ChannelId, (field (f.word 0) 0 8).toNat = c.val →
      ((s.channel c).state = .aborting → exec (.channelLoad f) s = .next (s.answeredRefused f .channelLoad .state)) ∧
      ((s.channel c).state ≠ .aborting → (s.channel c).pending ≠ none →
        exec (.channelLoad f) s = .next (s.answeredRefused f .channelLoad .busy)) ∧
      ((s.channel c).state ≠ .aborting → (s.channel c).pending = none →
        (descriptorWords (f.word 1) (f.word 2) (f.word 3) = none ∨ 256 ≤ (f.word 0).toNat →
          exec (.channelLoad f) s = .next (s.answeredRefused f .channelLoad .range)) ∧
        (∀ d, descriptorWords (f.word 1) (f.word 2) (f.word 3) = some d → (f.word 0).toNat < 256 →
          ((∃ p, d.names p = true ∧ (s.port p).state = .disabled) →
            exec (.channelLoad f) s = .next (s.answeredRefused f .channelLoad .portOff)) ∧
          ((∀ p, d.names p = true → (s.port p).state ≠ .disabled) →
            exec (.channelLoad f) s = .next (State.followUp
              { s.answeredOk f .channelLoad [] with
                channels := s.channels.set c
                  (if (s.channel c).state = .idle then
                    { s.channel c with
                      state := if s.engineEnable then .running else .paused
                      current := some { desc := d, remaining := d.count, src := d.srcAddr, dst := d.dstAddr }
                      permit := false }
                  else { s.channel c with pending := some d }) }))))

/-- CHANNEL ABORT and CHANNEL RESUME by the channel state; ENGINE START in RUN makes every PAUSED channel RUNNING, and is refused MODE
elsewhere; ENGINE QUENCH makes every RUNNING channel with no unit in flight PAUSED (R126, R128, R130, R131). -/
def Obligations.ChannelAndEngineCommands : Prop :=
  ∀ (f : MgmtFrame) (s : State),
    (∀ c : ChannelId, CommandAccepted s f 1 → f.word 0 = BitVec.ofNat 32 c.val →
      ((s.channel c).state = .idle → exec (.channelAbort f) s = .next (s.answeredRefused f .channelAbort .state)) ∧
      ((s.channel c).state = .aborting → exec (.channelAbort f) s = .next (s.answeredRefused f .channelAbort .busy)) ∧
      ((s.channel c).state ≠ .idle → (s.channel c).state ≠ .aborting →
        (∀ ph k r, (s.channel c).unit = some ⟨ph, .issued k, r⟩ →
          exec (.channelAbort f) s = .next
            { s.answeredOk f .channelAbort [] with
              channels := s.channels.set c { s.channel c with state := .aborting } }) ∧
        (∀ cur, (s.channel c).current = some cur → (∀ ph k r, (s.channel c).unit ≠ some ⟨ph, .issued k, r⟩) →
          exec (.channelAbort f) s = .next (State.followUp
            { s.answeredOk f .channelAbort [] with
              channels := s.channels.set c Channel.initial
              nu := s.received.nu.raise (.copyAborted c cur.remaining)
              mc := { s.received.mc with unitsInFlight := (s.channel (1 - c)).unit.isSome } }))) ∧
      ((s.channel c).state = .faulted →
        exec (.channelResume f) s = .next (State.followUp
          { s.answeredOk f .channelResume [] with
            channels := s.channels.set c
              { s.channel c with state := if s.engineEnable then .running else .paused, lastFault := none } })) ∧
      ((s.channel c).state ≠ .faulted →
        exec (.channelResume f) s = .next (s.answeredRefused f .channelResume .state))) ∧
    (CommandAccepted s f 0 →
      (s.mc.mode ≠ .run → exec (.engineStart f) s = .next (s.answeredRefused f .engineStart .mode)) ∧
      (s.mc.mode = .run → s.engineEnable = true → exec (.engineStart f) s = .next (s.answeredOk f .engineStart [])) ∧
      (s.mc.mode = .run → s.engineEnable = false →
        ∃ t : State, exec (.engineStart f) s = .next t.followUp ∧
          { t with channels := s.channels } = { s.answeredOk f .engineStart [] with engineEnable := true } ∧
          ∀ c, t.channel c =
            if (s.channel c).state = .paused then { s.channel c with state := .running } else s.channel c) ∧
      ∃ t, exec (.engineQuench f) s = .next t ∧
        { t with channels := s.channels } = { s.answeredOk f .engineQuench [] with engineEnable := false } ∧
        ∀ c, t.channel c =
          if (s.channel c).state = .running ∧ (s.channel c).unit = none then { s.channel c with state := .paused }
          else s.channel c)

/-- CHANNEL CLEAR names a channel: BAD_INDEX for a channel other than 0 or 1; in FAULTED it is accepted, everything the channel holds is
discarded and it is IDLE, with no notice; in every other state it is refused STATE (R127). -/
def Obligations.ChannelClear : Prop :=
  ∀ (f : MgmtFrame) (s : State), CommandAccepted s f 1 →
    (2 ≤ (field (f.word 0) 0 8).toNat → exec (.channelClear f) s = .next (s.answeredRefused f .channelClear .badIndex)) ∧
    ∀ c : ChannelId, f.word 0 = BitVec.ofNat 32 c.val →
      ((s.channel c).state = .faulted →
        exec (.channelClear f) s = .next
          { s.answeredOk f .channelClear [] with
            channels := s.channels.set c
              { state := .idle, current := none, pending := none, unit := none, permit := false, lastFault := none } }) ∧
      ((s.channel c).state ≠ .faulted →
        exec (.channelClear f) s = .next (s.answeredRefused f .channelClear .state))

/-! ## Settings (chapters 7, 8 and 9) -/

/-- NOTICE MASK, MANAGERS SET and SUPERVISION SET store their word, or refuse RANGE and change nothing; COUNTERS READ answers the counters
of a port or of the link, and clears them when bit 8 is set, and is refused BAD_INDEX for another selector, RANGE for another bit (R110,
R146, R156, R164 to R166, R190; log 7). -/
def Obligations.SettingsAndCounters : Prop :=
  ∀ (f : MgmtFrame) (s : State), CommandAccepted s f 1 →
    (f.word 0 &&& 0xFFFF8001 = 0 →
      exec (.noticeMask f) s = .next
        { s.answeredOk f .noticeMask [] with nu := { s.received.nu with mask := (f.word 0).setWidth 15 } }) ∧
    (f.word 0 &&& 0xFFFF8001 ≠ 0 → exec (.noticeMask f) s = .next (s.answeredRefused f .noticeMask .range)) ∧
    ((f.word 0).toNat < 256 → (f.word 0).getLsbD f.requester.val = true →
      exec (.managersSet f) s = .next
        { s.answeredOk f .managersSet [] with managers := (f.word 0).setWidth 8 }) ∧
    (256 ≤ (f.word 0).toNat ∨ (f.word 0).getLsbD f.requester.val = false →
      exec (.managersSet f) s = .next (s.answeredRefused f .managersSet .range)) ∧
    (f.word 0 &&& 0xFFFFFE00 = 0 →
      exec (.supervisionSet f) s = .next
        { s.answeredOk f .supervisionSet [] with
          mc := { s.received.mc with
            period := (f.word 0).setWidth 8
            wakeOnRequest := (f.word 0).getLsbD 8
            timer :=
              if (f.word 0).setWidth 8 = (0 : BitVec 8) then .off
              else .running (((f.word 0).setWidth 8 : BitVec 8).toNat * 4000) } }) ∧
    (f.word 0 &&& 0xFFFFFE00 ≠ 0 → exec (.supervisionSet f) s = .next (s.answeredRefused f .supervisionSet .range)) ∧
    (∀ p : PortId,
      (f.word 0 = BitVec.ofNat 32 p.val →
        exec (.countersRead f) s = .next (s.answeredOk f .countersRead (s.port p).counterBlock)) ∧
      (f.word 0 = BitVec.ofNat 32 (256 + p.val) →
        exec (.countersRead f) s = .next
          { s.answeredOk f .countersRead (s.port p).counterBlock with
            ports := s.ports.set p
              { s.port p with
                counters := { issued := 0, timeouts := 0, late := 0, retries := 0, stray := 0 }
                upkeep := { (s.port p).upkeep with
                  done := 0, missed := 0, suppressed := 0, failed := 0, lastFailedRow := none } } })) ∧
    (4 ≤ (field (f.word 0) 0 8).toNat → (field (f.word 0) 0 8).toNat ≠ 0x80 →
      exec (.countersRead f) s = .next (s.answeredRefused f .countersRead .badIndex)) ∧
    ((field (f.word 0) 0 8).toNat < 4 ∨ (field (f.word 0) 0 8).toNat = 0x80 → 0x200 ≤ (f.word 0).toNat →
      exec (.countersRead f) s = .next (s.answeredRefused f .countersRead .range)) ∧
    (f.word 0 = 0x80 →
      exec (.countersRead f) s = .next
        (s.answeredOk f .countersRead [s.li.checkErrors, s.li.overruns, s.li.malformed])) ∧
    (f.word 0 = 0x180 →
      exec (.countersRead f) s = .next
        { s.answeredOk f .countersRead [s.li.checkErrors, s.li.overruns, s.li.malformed] with
          li := { (s.answeredOk f .countersRead [s.li.checkErrors, s.li.overruns, s.li.malformed]).li with
            checkErrors := 0, overruns := 0, malformed := 0 } })

/-! ## Device modes (chapter 7) -/

/-- QUIESCE, RESUME and STOP by the mode. QUIESCE in RUN passes on to QUIET in the same event when the quiesce conditions hold; QUIET_REACHED
when they hold in QUIESCING, with stop-on-quiet going on to STOP; each change raises MODE_CHANGED with its cause (R91, R130, R136 to R140,
R143). -/
def Obligations.ModeChanges : Prop :=
  ∀ (f : MgmtFrame) (s : State),
    (CommandAccepted s f 0 →
      (s.mc.mode = .run →
        (∃ t : State, exec (.quiesce f) s = .next t.followUp ∧
          { t with channels := s.channels } =
            { s.answeredOk f .quiesce [] with
              mc := { s.received.mc with mode := .quiescing }
              nu := s.received.nu.raise (.modeChanged .quiescing .run .quiesce)
              engineEnable := false } ∧
          ∀ c, t.channel c =
            if (s.channel c).state = .running ∧ (s.channel c).unit = none then { s.channel c with state := .paused }
            else s.channel c) ∧
        (s.requestQueue = [] → s.mc.queueEmpty = true → s.mc.trackingEmpty = true → s.mc.unitsInFlight = false →
          s.mc.stopOnQuiet = false →
          ∃ t, exec (.quiesce f) s = .next t ∧ t.mc.mode = .quiet ∧
            t.nu = (s.received.nu.raise (.modeChanged .quiescing .run .quiesce)).raise
              (.modeChanged .quiet .quiescing .quietReached)) ∧
        exec (.resume f) s = .next (s.answeredOk f .resume []) ∧
        exec (.stop f) s = .next (s.answeredRefused f .stop .mode)) ∧
      (s.mc.mode = .quiescing →
        exec (.quiesce f) s = .next (s.answeredOk f .quiesce []) ∧
        exec (.resume f) s = .next
          { s.answeredOk f .resume [] with
            mc := { s.received.mc with mode := .run, stopOnQuiet := false }
            nu := s.received.nu.raise (.modeChanged .run .quiescing .resume) } ∧
        exec (.stop f) s = .next (s.answeredRefused f .stop .mode)) ∧
      (s.mc.mode = .quiet →
        exec (.quiesce f) s = .next (s.answeredOk f .quiesce []) ∧
        exec (.resume f) s = .next
          { s.answeredOk f .resume [] with
            mc := { s.received.mc with mode := .run }
            nu := s.received.nu.raise (.modeChanged .run .quiet .resume) } ∧
        ∃ t, exec (.stop f) s = .next t ∧
          { t with ports := s.ports } =
            { s.answeredOk f .stop [] with
              mc := { s.received.mc with mode := .stop }
              nu := s.received.nu.raise (.modeChanged .stop .quiet .stop) } ∧
          ∀ p, t.port p = (s.port p).modeEntersStop) ∧
      (s.mc.mode = .stop →
        exec (.quiesce f) s = .next (s.answeredRefused f .quiesce .mode) ∧
        exec (.stop f) s = .next (s.answeredOk f .stop []) ∧
        ∃ t : State, exec (.resume f) s = .next t.followUp ∧
          { t with ports := s.ports } =
            { s.answeredOk f .resume [] with
              mc := { s.received.mc with mode := .run }
              nu := s.received.nu.raise (.modeChanged .run .stop .resume) } ∧
          ∀ p, t.port p = (s.port p).modeLeavesStop)) ∧
    (s.mc.mode = .quiescing → s.mc.queueEmpty = true → s.mc.trackingEmpty = true → s.mc.unitsInFlight = false →
      (s.mc.stopOnQuiet = false →
        exec .quietReached s = .next (State.followUp
          { s with
            mc := { s.mc with mode := .quiet }
            nu := s.nu.raise (.modeChanged .quiet .quiescing .quietReached) })) ∧
      (s.mc.stopOnQuiet = true →
        ∃ t : State, exec .quietReached s = .next t.followUp ∧
          { t with ports := s.ports } =
            { s with
              mc := { s.mc with mode := .stop, stopOnQuiet := false }
              nu := (s.nu.raise (.modeChanged .quiet .quiescing .quietReached)).raise
                (.modeChanged .stop .quiet .quietReached) } ∧
          ∀ p, t.port p = (s.port p).modeEntersStop))

/-- The expiry of the supervision timer, when the period has run out, raises SUPERVISION_EXPIRED and acts by the mode: RUN becomes QUIESCING
with a quench, and passes on to QUIET in the same event when the quiesce conditions hold; QUIESCING, whose conditions do not hold, sets
stop-on-quiet; QUIET becomes STOP; each restarts the timer, in QUIET by the model's reading, log 15; in STOP the timer becomes EXPIRED. A
timer that is not at 0 does not expire and the state stays as it is: the model's reading, log 3, by which a QUIESCE taken first leaves no
expiry, log 19. QUIESCING with its conditions holding, which no run reaches, is left out (log 10). What a port does when the mode enters STOP,
HELD at once under a hold request among it (R90, R91, R102, R130, R136 to R139, R143 to R145, R148). -/
def Obligations.SupervisionEscalates : Prop :=
  (∀ s : State, s.mc.timer = .running 0 →
    let timer : SupervisionTimer := if s.mc.period = 0 then .off else .running (s.mc.period.toNat * 4000)
    let nu := s.nu.raise .supervisionExpired
    (s.mc.mode = .run →
      (∃ t : State, exec .supervisionTimerExpiry s = .next t.followUp ∧
        { t with channels := s.channels } =
          { s with
            mc := { s.mc with mode := .quiescing, timer := timer }
            nu := nu.raise (.modeChanged .quiescing .run .supervision)
            engineEnable := false } ∧
        ∀ c, t.channel c =
          if (s.channel c).state = .running ∧ (s.channel c).unit = none then { s.channel c with state := .paused }
          else s.channel c) ∧
      (s.requestQueue = [] → s.mc.queueEmpty = true → s.mc.trackingEmpty = true → s.mc.unitsInFlight = false →
        s.mc.stopOnQuiet = false →
        ∃ t, exec .supervisionTimerExpiry s = .next t ∧ t.mc.mode = .quiet ∧ t.mc.timer = timer ∧
          t.nu = (nu.raise (.modeChanged .quiescing .run .supervision)).raise (.modeChanged .quiet .quiescing .quietReached))) ∧
    (s.mc.mode = .quiescing → s.mc.queueEmpty = false ∨ s.mc.trackingEmpty = false ∨ s.mc.unitsInFlight = true →
      exec .supervisionTimerExpiry s = .next { s with mc := { s.mc with stopOnQuiet := true, timer := timer }, nu := nu }) ∧
    (s.mc.mode = .quiet →
      ∃ t, exec .supervisionTimerExpiry s = .next t ∧
        { t with ports := s.ports } =
          { s with
            mc := { s.mc with mode := .stop, timer := timer }
            nu := nu.raise (.modeChanged .stop .quiet .supervision) } ∧
        ∀ p, t.port p = (s.port p).modeEntersStop) ∧
    (s.mc.mode = .stop →
      exec .supervisionTimerExpiry s = .next { s with mc := { s.mc with timer := .expired }, nu := nu })) ∧
  (∀ s : State, s.mc.timer ≠ .running 0 → exec .supervisionTimerExpiry s = .next s) ∧
  (∀ q : Port,
    (q.state = .active → q.anyIssued = true → q.modeEntersStop = { q with state := .settling .stopped }) ∧
    (q.state = .active → q.anyIssued = false → q.holdRequest = false →
      q.modeEntersStop =
        { q with
          state := .stopped
          upkeep := { q.upkeep with
            pending := false
            missed := if q.upkeep.pending then q.upkeep.missed + 1 else q.upkeep.missed
            timer := none } }) ∧
    (q.state = .active → q.anyIssued = false → q.holdRequest = true →
      q.modeEntersStop =
        { q with
          state := .held
          holdTimer := if q.config.holdLimit = 0 then none else some (q.config.holdLimit.toNat * 1000)
          upkeep := { q.upkeep with
            pending := false
            missed := if q.upkeep.pending then q.upkeep.missed + 1 else q.upkeep.missed
            timer :=
              if q.config.interval = 0 then none
              else some
                { left := Config.intervalTenths q.config.interval / 10
                  remainder := Config.intervalTenths q.config.interval % 10 } } }) ∧
    (q.state ≠ .active → q.modeEntersStop = q))

/-! ## Start-up (chapter 11) -/

/-- The reads of the boot: 4 words in HEADER, then 16 words or the rest of the image of 13 + 4n words; the WAITING read again. A read that
fails ends the boot with REJECTED(ACCESS): an ERROR, an OK with another number of words, exhausted retries, a timeout (R183, R184, R187). -/
def Obligations.BootReads : Prop :=
  ∀ (s : State) (k : SlotId),
    (∀ ks, s.arbiterChoice 0 = some .boot → (s.port 0).freeOrder = k :: ks →
      (∀ n, s.boot.inFlight = none →
        n = (if s.boot.phase = .header then 4
          else min 16 (13 + 4 * (s.boot.staging.getD 1 0).toNat - s.boot.staging.length)) →
        exec .bootReadIssue s = .next (State.followUp
          { s with
            boot := { s.boot with
              inFlight := some { address := s.boot.nextAddr, count := n, retries := 0, state := .issued } }
            ports := s.ports.set 0 ((s.port 0).issued k ks .boot (.read s.boot.nextAddr n)) })) ∧
      (∀ r, s.boot.inFlight = some r →
        exec .bootReadIssue s = .next (State.followUp
          { s with
            boot := { s.boot with inFlight := some { r with state := .issued } }
            ports := s.ports.set 0 ((s.port 0).issued k ks .boot (.read r.address r.count)) }))) ∧
    (∀ r data, HeldSlot s 0 k .boot → s.boot.inFlight = some r →
      exec (.completion 0 k .error data) s = .next ((s.slotFreed 0 k).bootFinished .rejectedAccess).followUp ∧
      (data.length ≠ r.count →
        exec (.completion 0 k .ok data) s = .next ((s.slotFreed 0 k).bootFinished .rejectedAccess).followUp) ∧
      (r.retries < (s.port 0).config.retryLimit.toNat →
        exec (.completion 0 k .retry data) s = .next (State.followUp
          { s.slotRetried 0 k with
            boot := { s.boot with inFlight := some { r with retries := r.retries + 1, state := .waiting } } })) ∧
      ((s.port 0).config.retryLimit.toNat ≤ r.retries →
        exec (.completion 0 k .retry data) s = .next ((s.slotRetried 0 k).bootFinished .rejectedAccess).followUp) ∧
      (((s.port 0).slot k).expired = true →
        exec (.issueTimerExpiry 0 k) s = .next (((s.slotTimedOut 0 k).bootFinished .rejectedAccess).stallTest 0).followUp))

/-- The checks of the boot image in their order: ABSENT without the marker, REJECTED(FORMAT) for the window count or the reserved word, then
BODY; after the last body read REJECTED(CHECK) for the sum, REJECTED(FORMAT) for a record, LOADED. An image has records exactly when every
window record and port record is valid, no two windows have one index or share an address, and the supervision word has its zeros. A LOADED
image makes its windows LIVE, stores the four configurations, acts on the enable flags by the state of each port, and stores the
supervision word (R108, R109, R184 to R187). -/
def Obligations.BootImageIsValidatedAndApplied : Prop :=
  (∀ (s t : State) (k : SlotId) (r : BootRead) (data words : List Word), HeldSlot s 0 k .boot → s.boot.inFlight = some r →
    data.length = r.count → words = s.boot.staging ++ data →
    t = { s.slotFreed 0 k with
          boot := { s.boot with
            staging := words
            nextAddr := s.boot.nextAddr + BitVec.ofNat 28 (4 * data.length)
            inFlight := none } } →
    (s.boot.phase = .header →
      (words.getD 0 0 ≠ 0x4D475231 → exec (.completion 0 k .ok data) s = .next (t.bootFinished .absent).followUp) ∧
      (words.getD 0 0 = 0x4D475231 → 32 < (words.getD 1 0).toNat ∨ words.getD 3 0 ≠ 0 →
        exec (.completion 0 k .ok data) s = .next (t.bootFinished .rejectedFormat).followUp) ∧
      (words.getD 0 0 = 0x4D475231 → (words.getD 1 0).toNat ≤ 32 → words.getD 3 0 = 0 →
        exec (.completion 0 k .ok data) s = .next (State.followUp { t with boot := { t.boot with phase := .body } }))) ∧
    (s.boot.phase = .body →
      (words.length < 13 + 4 * (words.getD 1 0).toNat → exec (.completion 0 k .ok data) s = .next t.followUp) ∧
      (13 + 4 * (words.getD 1 0).toNat ≤ words.length →
        (words.foldl (· + ·) 0 ≠ 0 → exec (.completion 0 k .ok data) s = .next (t.bootFinished .rejectedCheck).followUp) ∧
        (words.foldl (· + ·) 0 = 0 → t.boot.records = none →
          exec (.completion 0 k .ok data) s = .next (t.bootFinished .rejectedFormat).followUp) ∧
        (∀ im, words.foldl (· + ·) 0 = 0 → t.boot.records = some im →
          exec (.completion 0 k .ok data) s = .next ((t.applyImage im).bootFinished .loaded).followUp)))) ∧
  (∀ (b : BootReader) (im : BootImage),
    let w := fun k => b.staging.getD k 0
    let n := (w 1).toNat
    b.records = some im ↔
      im.windows.length = n ∧
      (∀ j, j < n → ∃ i c, im.windows[j]? = some (i, c) ∧ (field (w (4 + 4 * j)) 0 8).toNat = i.val ∧
        windowRecord (w (4 + 4 * j)) (w (5 + 4 * j)) (w (6 + 4 * j)) (w (7 + 4 * j)) = some c) ∧
      (im.windows.Pairwise fun x y => x.1 ≠ y.1 ∧ rangesMeet x.2.range y.2.range = false) ∧
      im.ports.length = 4 ∧
      (∀ p : PortId, ∃ on c, im.ports[p.val]? = some (on, c) ∧
        (field (w (4 + 4 * n + 2 * p.val)) 0 2).toNat = (if on then 1 else 0) ∧
        portRecord (w (4 + 4 * n + 2 * p.val)) (w (5 + 4 * n + 2 * p.val)) = some c) ∧
      w (12 + 4 * n) &&& 0xFFFFFE00 = 0 ∧
      im.supervision = (field (w (12 + 4 * n)) 0 8, bit (w (12 + 4 * n)) 8)) ∧
  (∀ (s : State) (im : BootImage), (im.windows.map Prod.fst).Nodup →
    (∀ r ∈ im.windows, (s.applyImage im).window r.1 =
      { state := .live, contents := r.2, useCount := 0, hitCount := 0, pending := none }) ∧
    (∀ i, (∀ r ∈ im.windows, r.1 ≠ i) → (s.applyImage im).window i = s.window i) ∧
    (∀ p on c, im.ports[p.val]? = some (on, c) →
      let q := s.port p
      let fresh := if c.interval = 0 then none
        else some
          ({ left := Config.intervalTenths c.interval / 10
             remainder := Config.intervalTenths c.interval % 10 } : IntervalTimer)
      let rows : Row := if c.rowLimit = q.config.rowLimit then q.upkeep.rowCounter else 0
      let timer :=
        if c.interval = q.config.interval then q.upkeep.timer
        else if q.state = .disabled ∨ q.state = .stopped then none
        else fresh
      (q.state = .disabled → on = true →
        (s.applyImage im).port p =
          { q with
            config := c
            state := if q.holdRequest then .held else .active
            slots := #v[.free, .free, .free, .free]
            freeOrder := [0, 1, 2, 3]
            holdTimer :=
              if q.holdRequest then (if c.holdLimit = 0 then none else some (c.holdLimit.toNat * 1000)) else q.holdTimer
            upkeep := { q.upkeep with rowCounter := rows, timer := fresh } }) ∧
      (q.state ≠ .disabled ∧ on = true ∨ q.state = .disabled ∧ on = false →
        (s.applyImage im).port p = { q with config := c, upkeep := { q.upkeep with rowCounter := rows, timer := timer } }) ∧
      (q.state ≠ .disabled → on = false →
        (s.applyImage im).port p =
          { q with
            config := c
            state := .disabled
            stallReport := false
            holdTimer := none
            upkeep := { q.upkeep with
              rowCounter := rows
              timer := none
              pending := false
              missed := if q.upkeep.pending then q.upkeep.missed + 1 else q.upkeep.missed } })) ∧
    (im.ports.length = 4 →
      { s.applyImage im with windows := s.windows, ports := s.ports, mc := s.mc } = s) ∧
    (s.applyImage im).mc = { s.mc with period := im.supervision.1, wakeOnRequest := im.supervision.2 })

/-! ## Notices (chapter 8) -/

/-- A raised notice: discarded when its kind is disabled; merged into the queued notice of the same kind and subject, whose count saturates
at 255 and whose detail is replaced; appended; or lost when 8 are queued (R149, R151). -/
def Obligations.RaisedNotice : Prop :=
  ∀ (u : NoticeUnit) (n : Notice),
    (u.mask.getLsbD n.kindCode = false → u.raise n = u) ∧
    (∀ pre r post, u.mask.getLsbD n.kindCode = true → u.queue = pre ++ r :: post →
      (r.notice.kindCode = n.kindCode ∧ r.notice.subject = n.subject) →
      (∀ x ∈ pre ++ post, ¬ (x.notice.kindCode = n.kindCode ∧ x.notice.subject = n.subject)) →
      u.raise n = { u with queue := pre ++ { notice := n, count := min 255 (r.count + 1) } :: post }) ∧
    (u.mask.getLsbD n.kindCode = true →
      (∀ x ∈ u.queue, ¬ (x.notice.kindCode = n.kindCode ∧ x.notice.subject = n.subject)) →
      (u.queue.length < 8 → u.raise n = { u with queue := u.queue ++ [{ notice := n, count := 1 }] }) ∧
      (8 ≤ u.queue.length → u.raise n = { u with lost := min 65535 (u.lost + 1) }))

/-! ## Invariants that every step keeps -/

/-- The state after reset satisfies the invariants stated below; the first step from it, the read of the boot image, leaves nothing due. -/
def Obligations.ResetHoldsTheInvariants : Prop :=
  BootLaw State.reset ∧ UseCountLaw State.reset ∧ OverlapLaw State.reset ∧ (∀ p, SlotLaw (State.reset.port p)) ∧
    NoticeLaw State.reset.nu ∧ TagLaw State.reset ∧ CreditLaw State.reset ∧
    (∃ t, step State.reset = .next t ∧ NothingDue t) ∧ ∃ t, exec .powerOn State.reset = .next t ∧ NothingDue t

/-- Every step keeps the boot law: while the mode is BOOTING nothing is admitted, tracked, answered or granted, and no port reset is in
progress (R135, R175, R187). -/
def Obligations.StepKeepsTheBootLaw : Prop := ∀ s t : State, BootLaw s → step s = .next t → BootLaw t

/-- Every step keeps each window's use count equal to the number of tracking entries bound to it; a window is DRAINING exactly while the
deferred window operation is on it, and then with its pending record and at least one tracking entry; SWAP locks are held for entries of
their own port (R11, R18 to R24, R51, R71). -/
def Obligations.StepKeepsTheUseCounts : Prop :=
  ∀ s t : State, BootLaw s → UseCountLaw s → step s = .next t → UseCountLaw t

/-- Every step keeps the ranges of different windows apart, pending ranges included (R10). -/
def Obligations.StepKeepsWindowsApart : Prop :=
  ∀ s t : State, BootLaw s → OverlapLaw s → step s = .next t → OverlapLaw t

/-- Every step keeps the slots and the free-slot order of every port in agreement, and a HELD, STOPPED or RESETTING port without an ISSUED
slot (R78, R80, R92). -/
def Obligations.StepKeepsTheSlots : Prop :=
  ∀ s t : State, (∀ p, SlotLaw (s.port p)) → step s = .next t → ∀ p, SlotLaw (t.port p)

/-- Every step keeps the notice queue within its 8 records of different identities, with counts of 1 to 255 (R149 to R151). -/
def Obligations.StepKeepsTheNotices : Prop := ∀ s t : State, NoticeLaw s.nu → step s = .next t → NoticeLaw t.nu

/-- Every step keeps the tag set equal to the pairs of the requests and commands that the part holds, each once (R33, R161). -/
def Obligations.StepKeepsTheTagSet : Prop :=
  ∀ s t : State, BootLaw s → UseCountLaw s → TagLaw s → step s = .next t → TagLaw t

/-- Every step keeps each pool's balance and its unanswered requests at the size of the pool, so that no queue passes its capacity (R38,
R158, R175, R177). -/
def Obligations.StepKeepsTheCredit : Prop :=
  ∀ s t : State, BootLaw s → UseCountLaw s → TagLaw s → CreditLaw s → step s = .next t → CreditLaw t

/-- Every step leaves nothing due: no install whose window has use count 0, no dispatchable queue entry, no QUIESCING with the quiesce
conditions holding, nothing that an arbiter would serve, no SETTLING port without an ISSUED slot. What an event allows comes about in that
event (R11, R23, R24, R27, R36, R42, R71, R82, R88, R91, R101, R136, R137). -/
def Obligations.StepKeepsNothingDue : Prop :=
  ∀ s t : State, BootLaw s → UseCountLaw s → NothingDue s → step s = .next t → NothingDue t
end

