-- ==== Sys2Proof/Laws/State.lean ====
section
/-! SUPPORT. One lemma for each field of State and each update of it: what the update leaves alone, and what a record reads as after
it. -/

namespace Sys2Proof.Machine

/-! ## setWindow -/

@[simp] theorem State.setWindow_pending (s : State) (i : WindowIdx) (w : Window) : (s.setWindow i w).pending = s.pending := rfl
@[simp] theorem State.setWindow_resetn (s : State) (i : WindowIdx) (w : Window) : (s.setWindow i w).resetn = s.resetn := rfl
@[simp] theorem State.setWindow_deferred (s : State) (i : WindowIdx) (w : Window) : (s.setWindow i w).deferred = s.deferred := rfl
@[simp] theorem State.setWindow_requestQueue (s : State) (i : WindowIdx) (w : Window) : (s.setWindow i w).requestQueue = s.requestQueue := rfl
@[simp] theorem State.setWindow_tags (s : State) (i : WindowIdx) (w : Window) : (s.setWindow i w).tags = s.tags := rfl
@[simp] theorem State.setWindow_tracking (s : State) (i : WindowIdx) (w : Window) : (s.setWindow i w).tracking = s.tracking := rfl
@[simp] theorem State.setWindow_ports (s : State) (i : WindowIdx) (w : Window) : (s.setWindow i w).ports = s.ports := rfl
@[simp] theorem State.setWindow_engineEnable (s : State) (i : WindowIdx) (w : Window) : (s.setWindow i w).engineEnable = s.engineEnable := rfl
@[simp] theorem State.setWindow_channels (s : State) (i : WindowIdx) (w : Window) : (s.setWindow i w).channels = s.channels := rfl
@[simp] theorem State.setWindow_mc (s : State) (i : WindowIdx) (w : Window) : (s.setWindow i w).mc = s.mc := rfl
@[simp] theorem State.setWindow_nu (s : State) (i : WindowIdx) (w : Window) : (s.setWindow i w).nu = s.nu := rfl
@[simp] theorem State.setWindow_mgmtQueue (s : State) (i : WindowIdx) (w : Window) : (s.setWindow i w).mgmtQueue = s.mgmtQueue := rfl
@[simp] theorem State.setWindow_managers (s : State) (i : WindowIdx) (w : Window) : (s.setWindow i w).managers = s.managers := rfl
@[simp] theorem State.setWindow_li (s : State) (i : WindowIdx) (w : Window) : (s.setWindow i w).li = s.li := rfl
@[simp] theorem State.setWindow_boot (s : State) (i : WindowIdx) (w : Window) : (s.setWindow i w).boot = s.boot := rfl
@[simp] theorem State.setWindow_cause (s : State) (i : WindowIdx) (w : Window) : (s.setWindow i w).cause = s.cause := rfl

/-! ## mapWindows -/

@[simp] theorem State.mapWindows_pending (s : State) (f : Window → Window) : (s.mapWindows f).pending = s.pending := rfl
@[simp] theorem State.mapWindows_resetn (s : State) (f : Window → Window) : (s.mapWindows f).resetn = s.resetn := rfl
@[simp] theorem State.mapWindows_deferred (s : State) (f : Window → Window) : (s.mapWindows f).deferred = s.deferred := rfl
@[simp] theorem State.mapWindows_requestQueue (s : State) (f : Window → Window) : (s.mapWindows f).requestQueue = s.requestQueue := rfl
@[simp] theorem State.mapWindows_tags (s : State) (f : Window → Window) : (s.mapWindows f).tags = s.tags := rfl
@[simp] theorem State.mapWindows_tracking (s : State) (f : Window → Window) : (s.mapWindows f).tracking = s.tracking := rfl
@[simp] theorem State.mapWindows_ports (s : State) (f : Window → Window) : (s.mapWindows f).ports = s.ports := rfl
@[simp] theorem State.mapWindows_engineEnable (s : State) (f : Window → Window) : (s.mapWindows f).engineEnable = s.engineEnable := rfl
@[simp] theorem State.mapWindows_channels (s : State) (f : Window → Window) : (s.mapWindows f).channels = s.channels := rfl
@[simp] theorem State.mapWindows_mc (s : State) (f : Window → Window) : (s.mapWindows f).mc = s.mc := rfl
@[simp] theorem State.mapWindows_nu (s : State) (f : Window → Window) : (s.mapWindows f).nu = s.nu := rfl
@[simp] theorem State.mapWindows_mgmtQueue (s : State) (f : Window → Window) : (s.mapWindows f).mgmtQueue = s.mgmtQueue := rfl
@[simp] theorem State.mapWindows_managers (s : State) (f : Window → Window) : (s.mapWindows f).managers = s.managers := rfl
@[simp] theorem State.mapWindows_li (s : State) (f : Window → Window) : (s.mapWindows f).li = s.li := rfl
@[simp] theorem State.mapWindows_boot (s : State) (f : Window → Window) : (s.mapWindows f).boot = s.boot := rfl
@[simp] theorem State.mapWindows_cause (s : State) (f : Window → Window) : (s.mapWindows f).cause = s.cause := rfl

/-! ## updPort -/

@[simp] theorem State.updPort_pending (s : State) (p : PortId) (f : Port → Port) : (s.updPort p f).pending = s.pending := rfl
@[simp] theorem State.updPort_resetn (s : State) (p : PortId) (f : Port → Port) : (s.updPort p f).resetn = s.resetn := rfl
@[simp] theorem State.updPort_windows (s : State) (p : PortId) (f : Port → Port) : (s.updPort p f).windows = s.windows := rfl
@[simp] theorem State.updPort_deferred (s : State) (p : PortId) (f : Port → Port) : (s.updPort p f).deferred = s.deferred := rfl
@[simp] theorem State.updPort_requestQueue (s : State) (p : PortId) (f : Port → Port) : (s.updPort p f).requestQueue = s.requestQueue := rfl
@[simp] theorem State.updPort_tags (s : State) (p : PortId) (f : Port → Port) : (s.updPort p f).tags = s.tags := rfl
@[simp] theorem State.updPort_tracking (s : State) (p : PortId) (f : Port → Port) : (s.updPort p f).tracking = s.tracking := rfl
@[simp] theorem State.updPort_engineEnable (s : State) (p : PortId) (f : Port → Port) : (s.updPort p f).engineEnable = s.engineEnable := rfl
@[simp] theorem State.updPort_channels (s : State) (p : PortId) (f : Port → Port) : (s.updPort p f).channels = s.channels := rfl
@[simp] theorem State.updPort_mc (s : State) (p : PortId) (f : Port → Port) : (s.updPort p f).mc = s.mc := rfl
@[simp] theorem State.updPort_nu (s : State) (p : PortId) (f : Port → Port) : (s.updPort p f).nu = s.nu := rfl
@[simp] theorem State.updPort_mgmtQueue (s : State) (p : PortId) (f : Port → Port) : (s.updPort p f).mgmtQueue = s.mgmtQueue := rfl
@[simp] theorem State.updPort_managers (s : State) (p : PortId) (f : Port → Port) : (s.updPort p f).managers = s.managers := rfl
@[simp] theorem State.updPort_li (s : State) (p : PortId) (f : Port → Port) : (s.updPort p f).li = s.li := rfl
@[simp] theorem State.updPort_boot (s : State) (p : PortId) (f : Port → Port) : (s.updPort p f).boot = s.boot := rfl
@[simp] theorem State.updPort_cause (s : State) (p : PortId) (f : Port → Port) : (s.updPort p f).cause = s.cause := rfl

/-! ## mapPorts -/

@[simp] theorem State.mapPorts_pending (s : State) (f : Port → Port) : (s.mapPorts f).pending = s.pending := rfl
@[simp] theorem State.mapPorts_resetn (s : State) (f : Port → Port) : (s.mapPorts f).resetn = s.resetn := rfl
@[simp] theorem State.mapPorts_windows (s : State) (f : Port → Port) : (s.mapPorts f).windows = s.windows := rfl
@[simp] theorem State.mapPorts_deferred (s : State) (f : Port → Port) : (s.mapPorts f).deferred = s.deferred := rfl
@[simp] theorem State.mapPorts_requestQueue (s : State) (f : Port → Port) : (s.mapPorts f).requestQueue = s.requestQueue := rfl
@[simp] theorem State.mapPorts_tags (s : State) (f : Port → Port) : (s.mapPorts f).tags = s.tags := rfl
@[simp] theorem State.mapPorts_tracking (s : State) (f : Port → Port) : (s.mapPorts f).tracking = s.tracking := rfl
@[simp] theorem State.mapPorts_engineEnable (s : State) (f : Port → Port) : (s.mapPorts f).engineEnable = s.engineEnable := rfl
@[simp] theorem State.mapPorts_channels (s : State) (f : Port → Port) : (s.mapPorts f).channels = s.channels := rfl
@[simp] theorem State.mapPorts_mc (s : State) (f : Port → Port) : (s.mapPorts f).mc = s.mc := rfl
@[simp] theorem State.mapPorts_nu (s : State) (f : Port → Port) : (s.mapPorts f).nu = s.nu := rfl
@[simp] theorem State.mapPorts_mgmtQueue (s : State) (f : Port → Port) : (s.mapPorts f).mgmtQueue = s.mgmtQueue := rfl
@[simp] theorem State.mapPorts_managers (s : State) (f : Port → Port) : (s.mapPorts f).managers = s.managers := rfl
@[simp] theorem State.mapPorts_li (s : State) (f : Port → Port) : (s.mapPorts f).li = s.li := rfl
@[simp] theorem State.mapPorts_boot (s : State) (f : Port → Port) : (s.mapPorts f).boot = s.boot := rfl
@[simp] theorem State.mapPorts_cause (s : State) (f : Port → Port) : (s.mapPorts f).cause = s.cause := rfl

/-! ## setChannel -/

@[simp] theorem State.setChannel_pending (s : State) (c : ChannelId) (ch : Channel) : (s.setChannel c ch).pending = s.pending := rfl
@[simp] theorem State.setChannel_resetn (s : State) (c : ChannelId) (ch : Channel) : (s.setChannel c ch).resetn = s.resetn := rfl
@[simp] theorem State.setChannel_windows (s : State) (c : ChannelId) (ch : Channel) : (s.setChannel c ch).windows = s.windows := rfl
@[simp] theorem State.setChannel_deferred (s : State) (c : ChannelId) (ch : Channel) : (s.setChannel c ch).deferred = s.deferred := rfl
@[simp] theorem State.setChannel_requestQueue (s : State) (c : ChannelId) (ch : Channel) : (s.setChannel c ch).requestQueue = s.requestQueue := rfl
@[simp] theorem State.setChannel_tags (s : State) (c : ChannelId) (ch : Channel) : (s.setChannel c ch).tags = s.tags := rfl
@[simp] theorem State.setChannel_tracking (s : State) (c : ChannelId) (ch : Channel) : (s.setChannel c ch).tracking = s.tracking := rfl
@[simp] theorem State.setChannel_ports (s : State) (c : ChannelId) (ch : Channel) : (s.setChannel c ch).ports = s.ports := rfl
@[simp] theorem State.setChannel_engineEnable (s : State) (c : ChannelId) (ch : Channel) : (s.setChannel c ch).engineEnable = s.engineEnable := rfl
@[simp] theorem State.setChannel_mc (s : State) (c : ChannelId) (ch : Channel) : (s.setChannel c ch).mc = s.mc := rfl
@[simp] theorem State.setChannel_nu (s : State) (c : ChannelId) (ch : Channel) : (s.setChannel c ch).nu = s.nu := rfl
@[simp] theorem State.setChannel_mgmtQueue (s : State) (c : ChannelId) (ch : Channel) : (s.setChannel c ch).mgmtQueue = s.mgmtQueue := rfl
@[simp] theorem State.setChannel_managers (s : State) (c : ChannelId) (ch : Channel) : (s.setChannel c ch).managers = s.managers := rfl
@[simp] theorem State.setChannel_li (s : State) (c : ChannelId) (ch : Channel) : (s.setChannel c ch).li = s.li := rfl
@[simp] theorem State.setChannel_boot (s : State) (c : ChannelId) (ch : Channel) : (s.setChannel c ch).boot = s.boot := rfl
@[simp] theorem State.setChannel_cause (s : State) (c : ChannelId) (ch : Channel) : (s.setChannel c ch).cause = s.cause := rfl

/-! ## mapChannels -/

@[simp] theorem State.mapChannels_pending (s : State) (f : Channel → Channel) : (s.mapChannels f).pending = s.pending := rfl
@[simp] theorem State.mapChannels_resetn (s : State) (f : Channel → Channel) : (s.mapChannels f).resetn = s.resetn := rfl
@[simp] theorem State.mapChannels_windows (s : State) (f : Channel → Channel) : (s.mapChannels f).windows = s.windows := rfl
@[simp] theorem State.mapChannels_deferred (s : State) (f : Channel → Channel) : (s.mapChannels f).deferred = s.deferred := rfl
@[simp] theorem State.mapChannels_requestQueue (s : State) (f : Channel → Channel) : (s.mapChannels f).requestQueue = s.requestQueue := rfl
@[simp] theorem State.mapChannels_tags (s : State) (f : Channel → Channel) : (s.mapChannels f).tags = s.tags := rfl
@[simp] theorem State.mapChannels_tracking (s : State) (f : Channel → Channel) : (s.mapChannels f).tracking = s.tracking := rfl
@[simp] theorem State.mapChannels_ports (s : State) (f : Channel → Channel) : (s.mapChannels f).ports = s.ports := rfl
@[simp] theorem State.mapChannels_engineEnable (s : State) (f : Channel → Channel) : (s.mapChannels f).engineEnable = s.engineEnable := rfl
@[simp] theorem State.mapChannels_mc (s : State) (f : Channel → Channel) : (s.mapChannels f).mc = s.mc := rfl
@[simp] theorem State.mapChannels_nu (s : State) (f : Channel → Channel) : (s.mapChannels f).nu = s.nu := rfl
@[simp] theorem State.mapChannels_mgmtQueue (s : State) (f : Channel → Channel) : (s.mapChannels f).mgmtQueue = s.mgmtQueue := rfl
@[simp] theorem State.mapChannels_managers (s : State) (f : Channel → Channel) : (s.mapChannels f).managers = s.managers := rfl
@[simp] theorem State.mapChannels_li (s : State) (f : Channel → Channel) : (s.mapChannels f).li = s.li := rfl
@[simp] theorem State.mapChannels_boot (s : State) (f : Channel → Channel) : (s.mapChannels f).boot = s.boot := rfl
@[simp] theorem State.mapChannels_cause (s : State) (f : Channel → Channel) : (s.mapChannels f).cause = s.cause := rfl

/-! ## updEntry -/

@[simp] theorem State.updEntry_pending (s : State) (i : TrackIdx) (f : TrackEntry → TrackEntry) : (s.updEntry i f).pending = s.pending := rfl
@[simp] theorem State.updEntry_resetn (s : State) (i : TrackIdx) (f : TrackEntry → TrackEntry) : (s.updEntry i f).resetn = s.resetn := rfl
@[simp] theorem State.updEntry_windows (s : State) (i : TrackIdx) (f : TrackEntry → TrackEntry) : (s.updEntry i f).windows = s.windows := rfl
@[simp] theorem State.updEntry_deferred (s : State) (i : TrackIdx) (f : TrackEntry → TrackEntry) : (s.updEntry i f).deferred = s.deferred := rfl
@[simp] theorem State.updEntry_requestQueue (s : State) (i : TrackIdx) (f : TrackEntry → TrackEntry) : (s.updEntry i f).requestQueue = s.requestQueue := rfl
@[simp] theorem State.updEntry_tags (s : State) (i : TrackIdx) (f : TrackEntry → TrackEntry) : (s.updEntry i f).tags = s.tags := rfl
@[simp] theorem State.updEntry_ports (s : State) (i : TrackIdx) (f : TrackEntry → TrackEntry) : (s.updEntry i f).ports = s.ports := rfl
@[simp] theorem State.updEntry_engineEnable (s : State) (i : TrackIdx) (f : TrackEntry → TrackEntry) : (s.updEntry i f).engineEnable = s.engineEnable := rfl
@[simp] theorem State.updEntry_channels (s : State) (i : TrackIdx) (f : TrackEntry → TrackEntry) : (s.updEntry i f).channels = s.channels := rfl
@[simp] theorem State.updEntry_mc (s : State) (i : TrackIdx) (f : TrackEntry → TrackEntry) : (s.updEntry i f).mc = s.mc := rfl
@[simp] theorem State.updEntry_nu (s : State) (i : TrackIdx) (f : TrackEntry → TrackEntry) : (s.updEntry i f).nu = s.nu := rfl
@[simp] theorem State.updEntry_mgmtQueue (s : State) (i : TrackIdx) (f : TrackEntry → TrackEntry) : (s.updEntry i f).mgmtQueue = s.mgmtQueue := rfl
@[simp] theorem State.updEntry_managers (s : State) (i : TrackIdx) (f : TrackEntry → TrackEntry) : (s.updEntry i f).managers = s.managers := rfl
@[simp] theorem State.updEntry_li (s : State) (i : TrackIdx) (f : TrackEntry → TrackEntry) : (s.updEntry i f).li = s.li := rfl
@[simp] theorem State.updEntry_boot (s : State) (i : TrackIdx) (f : TrackEntry → TrackEntry) : (s.updEntry i f).boot = s.boot := rfl
@[simp] theorem State.updEntry_cause (s : State) (i : TrackIdx) (f : TrackEntry → TrackEntry) : (s.updEntry i f).cause = s.cause := rfl

/-! ## dropEntry -/

@[simp] theorem State.dropEntry_pending (s : State) (i : TrackIdx) : (s.dropEntry i).pending = s.pending := rfl
@[simp] theorem State.dropEntry_resetn (s : State) (i : TrackIdx) : (s.dropEntry i).resetn = s.resetn := rfl
@[simp] theorem State.dropEntry_windows (s : State) (i : TrackIdx) : (s.dropEntry i).windows = s.windows := rfl
@[simp] theorem State.dropEntry_deferred (s : State) (i : TrackIdx) : (s.dropEntry i).deferred = s.deferred := rfl
@[simp] theorem State.dropEntry_requestQueue (s : State) (i : TrackIdx) : (s.dropEntry i).requestQueue = s.requestQueue := rfl
@[simp] theorem State.dropEntry_tags (s : State) (i : TrackIdx) : (s.dropEntry i).tags = s.tags := rfl
@[simp] theorem State.dropEntry_ports (s : State) (i : TrackIdx) : (s.dropEntry i).ports = s.ports := rfl
@[simp] theorem State.dropEntry_engineEnable (s : State) (i : TrackIdx) : (s.dropEntry i).engineEnable = s.engineEnable := rfl
@[simp] theorem State.dropEntry_channels (s : State) (i : TrackIdx) : (s.dropEntry i).channels = s.channels := rfl
@[simp] theorem State.dropEntry_mc (s : State) (i : TrackIdx) : (s.dropEntry i).mc = s.mc := rfl
@[simp] theorem State.dropEntry_nu (s : State) (i : TrackIdx) : (s.dropEntry i).nu = s.nu := rfl
@[simp] theorem State.dropEntry_mgmtQueue (s : State) (i : TrackIdx) : (s.dropEntry i).mgmtQueue = s.mgmtQueue := rfl
@[simp] theorem State.dropEntry_managers (s : State) (i : TrackIdx) : (s.dropEntry i).managers = s.managers := rfl
@[simp] theorem State.dropEntry_li (s : State) (i : TrackIdx) : (s.dropEntry i).li = s.li := rfl
@[simp] theorem State.dropEntry_boot (s : State) (i : TrackIdx) : (s.dropEntry i).boot = s.boot := rfl
@[simp] theorem State.dropEntry_cause (s : State) (i : TrackIdx) : (s.dropEntry i).cause = s.cause := rfl

/-! ## raise -/

@[simp] theorem State.raise_pending (s : State) (n : Notice) : (s.raise n).pending = s.pending := rfl
@[simp] theorem State.raise_resetn (s : State) (n : Notice) : (s.raise n).resetn = s.resetn := rfl
@[simp] theorem State.raise_windows (s : State) (n : Notice) : (s.raise n).windows = s.windows := rfl
@[simp] theorem State.raise_deferred (s : State) (n : Notice) : (s.raise n).deferred = s.deferred := rfl
@[simp] theorem State.raise_requestQueue (s : State) (n : Notice) : (s.raise n).requestQueue = s.requestQueue := rfl
@[simp] theorem State.raise_tags (s : State) (n : Notice) : (s.raise n).tags = s.tags := rfl
@[simp] theorem State.raise_tracking (s : State) (n : Notice) : (s.raise n).tracking = s.tracking := rfl
@[simp] theorem State.raise_ports (s : State) (n : Notice) : (s.raise n).ports = s.ports := rfl
@[simp] theorem State.raise_engineEnable (s : State) (n : Notice) : (s.raise n).engineEnable = s.engineEnable := rfl
@[simp] theorem State.raise_channels (s : State) (n : Notice) : (s.raise n).channels = s.channels := rfl
@[simp] theorem State.raise_mc (s : State) (n : Notice) : (s.raise n).mc = s.mc := rfl
@[simp] theorem State.raise_mgmtQueue (s : State) (n : Notice) : (s.raise n).mgmtQueue = s.mgmtQueue := rfl
@[simp] theorem State.raise_managers (s : State) (n : Notice) : (s.raise n).managers = s.managers := rfl
@[simp] theorem State.raise_li (s : State) (n : Notice) : (s.raise n).li = s.li := rfl
@[simp] theorem State.raise_boot (s : State) (n : Notice) : (s.raise n).boot = s.boot := rfl
@[simp] theorem State.raise_cause (s : State) (n : Notice) : (s.raise n).cause = s.cause := rfl

/-! ## respond -/

@[simp] theorem State.respond_pending (s : State) (r : Response) : (s.respond r).pending = s.pending := rfl
@[simp] theorem State.respond_resetn (s : State) (r : Response) : (s.respond r).resetn = s.resetn := rfl
@[simp] theorem State.respond_windows (s : State) (r : Response) : (s.respond r).windows = s.windows := rfl
@[simp] theorem State.respond_deferred (s : State) (r : Response) : (s.respond r).deferred = s.deferred := rfl
@[simp] theorem State.respond_requestQueue (s : State) (r : Response) : (s.respond r).requestQueue = s.requestQueue := rfl
@[simp] theorem State.respond_tags (s : State) (r : Response) : (s.respond r).tags = s.tags := rfl
@[simp] theorem State.respond_tracking (s : State) (r : Response) : (s.respond r).tracking = s.tracking := rfl
@[simp] theorem State.respond_ports (s : State) (r : Response) : (s.respond r).ports = s.ports := rfl
@[simp] theorem State.respond_engineEnable (s : State) (r : Response) : (s.respond r).engineEnable = s.engineEnable := rfl
@[simp] theorem State.respond_channels (s : State) (r : Response) : (s.respond r).channels = s.channels := rfl
@[simp] theorem State.respond_mc (s : State) (r : Response) : (s.respond r).mc = s.mc := rfl
@[simp] theorem State.respond_nu (s : State) (r : Response) : (s.respond r).nu = s.nu := rfl
@[simp] theorem State.respond_mgmtQueue (s : State) (r : Response) : (s.respond r).mgmtQueue = s.mgmtQueue := rfl
@[simp] theorem State.respond_managers (s : State) (r : Response) : (s.respond r).managers = s.managers := rfl
@[simp] theorem State.respond_boot (s : State) (r : Response) : (s.respond r).boot = s.boot := rfl
@[simp] theorem State.respond_cause (s : State) (r : Response) : (s.respond r).cause = s.cause := rfl

/-! ## enterTag -/

@[simp] theorem State.enterTag_pending (s : State) (x : Pair) : (s.enterTag x).pending = s.pending := rfl
@[simp] theorem State.enterTag_resetn (s : State) (x : Pair) : (s.enterTag x).resetn = s.resetn := rfl
@[simp] theorem State.enterTag_windows (s : State) (x : Pair) : (s.enterTag x).windows = s.windows := rfl
@[simp] theorem State.enterTag_deferred (s : State) (x : Pair) : (s.enterTag x).deferred = s.deferred := rfl
@[simp] theorem State.enterTag_requestQueue (s : State) (x : Pair) : (s.enterTag x).requestQueue = s.requestQueue := rfl
@[simp] theorem State.enterTag_tracking (s : State) (x : Pair) : (s.enterTag x).tracking = s.tracking := rfl
@[simp] theorem State.enterTag_ports (s : State) (x : Pair) : (s.enterTag x).ports = s.ports := rfl
@[simp] theorem State.enterTag_engineEnable (s : State) (x : Pair) : (s.enterTag x).engineEnable = s.engineEnable := rfl
@[simp] theorem State.enterTag_channels (s : State) (x : Pair) : (s.enterTag x).channels = s.channels := rfl
@[simp] theorem State.enterTag_mc (s : State) (x : Pair) : (s.enterTag x).mc = s.mc := rfl
@[simp] theorem State.enterTag_nu (s : State) (x : Pair) : (s.enterTag x).nu = s.nu := rfl
@[simp] theorem State.enterTag_mgmtQueue (s : State) (x : Pair) : (s.enterTag x).mgmtQueue = s.mgmtQueue := rfl
@[simp] theorem State.enterTag_managers (s : State) (x : Pair) : (s.enterTag x).managers = s.managers := rfl
@[simp] theorem State.enterTag_li (s : State) (x : Pair) : (s.enterTag x).li = s.li := rfl
@[simp] theorem State.enterTag_boot (s : State) (x : Pair) : (s.enterTag x).boot = s.boot := rfl
@[simp] theorem State.enterTag_cause (s : State) (x : Pair) : (s.enterTag x).cause = s.cause := rfl

/-! ## releaseTag -/

@[simp] theorem State.releaseTag_pending (s : State) (x : Pair) : (s.releaseTag x).pending = s.pending := rfl
@[simp] theorem State.releaseTag_resetn (s : State) (x : Pair) : (s.releaseTag x).resetn = s.resetn := rfl
@[simp] theorem State.releaseTag_windows (s : State) (x : Pair) : (s.releaseTag x).windows = s.windows := rfl
@[simp] theorem State.releaseTag_deferred (s : State) (x : Pair) : (s.releaseTag x).deferred = s.deferred := rfl
@[simp] theorem State.releaseTag_requestQueue (s : State) (x : Pair) : (s.releaseTag x).requestQueue = s.requestQueue := rfl
@[simp] theorem State.releaseTag_tracking (s : State) (x : Pair) : (s.releaseTag x).tracking = s.tracking := rfl
@[simp] theorem State.releaseTag_ports (s : State) (x : Pair) : (s.releaseTag x).ports = s.ports := rfl
@[simp] theorem State.releaseTag_engineEnable (s : State) (x : Pair) : (s.releaseTag x).engineEnable = s.engineEnable := rfl
@[simp] theorem State.releaseTag_channels (s : State) (x : Pair) : (s.releaseTag x).channels = s.channels := rfl
@[simp] theorem State.releaseTag_mc (s : State) (x : Pair) : (s.releaseTag x).mc = s.mc := rfl
@[simp] theorem State.releaseTag_nu (s : State) (x : Pair) : (s.releaseTag x).nu = s.nu := rfl
@[simp] theorem State.releaseTag_mgmtQueue (s : State) (x : Pair) : (s.releaseTag x).mgmtQueue = s.mgmtQueue := rfl
@[simp] theorem State.releaseTag_managers (s : State) (x : Pair) : (s.releaseTag x).managers = s.managers := rfl
@[simp] theorem State.releaseTag_li (s : State) (x : Pair) : (s.releaseTag x).li = s.li := rfl
@[simp] theorem State.releaseTag_boot (s : State) (x : Pair) : (s.releaseTag x).boot = s.boot := rfl
@[simp] theorem State.releaseTag_cause (s : State) (x : Pair) : (s.releaseTag x).cause = s.cause := rfl

/-! ## answerMgmt -/

@[simp] theorem State.answerMgmt_pending (s : State) (r : Response) : (s.answerMgmt r).pending = s.pending := rfl
@[simp] theorem State.answerMgmt_resetn (s : State) (r : Response) : (s.answerMgmt r).resetn = s.resetn := rfl
@[simp] theorem State.answerMgmt_windows (s : State) (r : Response) : (s.answerMgmt r).windows = s.windows := rfl
@[simp] theorem State.answerMgmt_deferred (s : State) (r : Response) : (s.answerMgmt r).deferred = s.deferred := rfl
@[simp] theorem State.answerMgmt_requestQueue (s : State) (r : Response) : (s.answerMgmt r).requestQueue = s.requestQueue := rfl
@[simp] theorem State.answerMgmt_tags (s : State) (r : Response) : (s.answerMgmt r).tags = s.tags := rfl
@[simp] theorem State.answerMgmt_tracking (s : State) (r : Response) : (s.answerMgmt r).tracking = s.tracking := rfl
@[simp] theorem State.answerMgmt_ports (s : State) (r : Response) : (s.answerMgmt r).ports = s.ports := rfl
@[simp] theorem State.answerMgmt_engineEnable (s : State) (r : Response) : (s.answerMgmt r).engineEnable = s.engineEnable := rfl
@[simp] theorem State.answerMgmt_channels (s : State) (r : Response) : (s.answerMgmt r).channels = s.channels := rfl
@[simp] theorem State.answerMgmt_mc (s : State) (r : Response) : (s.answerMgmt r).mc = s.mc := rfl
@[simp] theorem State.answerMgmt_nu (s : State) (r : Response) : (s.answerMgmt r).nu = s.nu := rfl
@[simp] theorem State.answerMgmt_managers (s : State) (r : Response) : (s.answerMgmt r).managers = s.managers := rfl
@[simp] theorem State.answerMgmt_boot (s : State) (r : Response) : (s.answerMgmt r).boot = s.boot := rfl
@[simp] theorem State.answerMgmt_cause (s : State) (r : Response) : (s.answerMgmt r).cause = s.cause := rfl

/-! ## reportQueue -/

@[simp] theorem State.reportQueue_pending (s : State) : s.reportQueue.pending = s.pending := rfl
@[simp] theorem State.reportQueue_resetn (s : State) : s.reportQueue.resetn = s.resetn := rfl
@[simp] theorem State.reportQueue_windows (s : State) : s.reportQueue.windows = s.windows := rfl
@[simp] theorem State.reportQueue_deferred (s : State) : s.reportQueue.deferred = s.deferred := rfl
@[simp] theorem State.reportQueue_requestQueue (s : State) : s.reportQueue.requestQueue = s.requestQueue := rfl
@[simp] theorem State.reportQueue_tags (s : State) : s.reportQueue.tags = s.tags := rfl
@[simp] theorem State.reportQueue_tracking (s : State) : s.reportQueue.tracking = s.tracking := rfl
@[simp] theorem State.reportQueue_ports (s : State) : s.reportQueue.ports = s.ports := rfl
@[simp] theorem State.reportQueue_engineEnable (s : State) : s.reportQueue.engineEnable = s.engineEnable := rfl
@[simp] theorem State.reportQueue_channels (s : State) : s.reportQueue.channels = s.channels := rfl
@[simp] theorem State.reportQueue_nu (s : State) : s.reportQueue.nu = s.nu := rfl
@[simp] theorem State.reportQueue_mgmtQueue (s : State) : s.reportQueue.mgmtQueue = s.mgmtQueue := rfl
@[simp] theorem State.reportQueue_managers (s : State) : s.reportQueue.managers = s.managers := rfl
@[simp] theorem State.reportQueue_li (s : State) : s.reportQueue.li = s.li := rfl
@[simp] theorem State.reportQueue_boot (s : State) : s.reportQueue.boot = s.boot := rfl
@[simp] theorem State.reportQueue_cause (s : State) : s.reportQueue.cause = s.cause := rfl

/-! ## reportTracking -/

@[simp] theorem State.reportTracking_pending (s : State) : s.reportTracking.pending = s.pending := rfl
@[simp] theorem State.reportTracking_resetn (s : State) : s.reportTracking.resetn = s.resetn := rfl
@[simp] theorem State.reportTracking_windows (s : State) : s.reportTracking.windows = s.windows := rfl
@[simp] theorem State.reportTracking_deferred (s : State) : s.reportTracking.deferred = s.deferred := rfl
@[simp] theorem State.reportTracking_requestQueue (s : State) : s.reportTracking.requestQueue = s.requestQueue := rfl
@[simp] theorem State.reportTracking_tags (s : State) : s.reportTracking.tags = s.tags := rfl
@[simp] theorem State.reportTracking_tracking (s : State) : s.reportTracking.tracking = s.tracking := rfl
@[simp] theorem State.reportTracking_ports (s : State) : s.reportTracking.ports = s.ports := rfl
@[simp] theorem State.reportTracking_engineEnable (s : State) : s.reportTracking.engineEnable = s.engineEnable := rfl
@[simp] theorem State.reportTracking_channels (s : State) : s.reportTracking.channels = s.channels := rfl
@[simp] theorem State.reportTracking_nu (s : State) : s.reportTracking.nu = s.nu := rfl
@[simp] theorem State.reportTracking_mgmtQueue (s : State) : s.reportTracking.mgmtQueue = s.mgmtQueue := rfl
@[simp] theorem State.reportTracking_managers (s : State) : s.reportTracking.managers = s.managers := rfl
@[simp] theorem State.reportTracking_li (s : State) : s.reportTracking.li = s.li := rfl
@[simp] theorem State.reportTracking_boot (s : State) : s.reportTracking.boot = s.boot := rfl
@[simp] theorem State.reportTracking_cause (s : State) : s.reportTracking.cause = s.cause := rfl

/-! ## reportUnits -/

@[simp] theorem State.reportUnits_pending (s : State) : s.reportUnits.pending = s.pending := rfl
@[simp] theorem State.reportUnits_resetn (s : State) : s.reportUnits.resetn = s.resetn := rfl
@[simp] theorem State.reportUnits_windows (s : State) : s.reportUnits.windows = s.windows := rfl
@[simp] theorem State.reportUnits_deferred (s : State) : s.reportUnits.deferred = s.deferred := rfl
@[simp] theorem State.reportUnits_requestQueue (s : State) : s.reportUnits.requestQueue = s.requestQueue := rfl
@[simp] theorem State.reportUnits_tags (s : State) : s.reportUnits.tags = s.tags := rfl
@[simp] theorem State.reportUnits_tracking (s : State) : s.reportUnits.tracking = s.tracking := rfl
@[simp] theorem State.reportUnits_ports (s : State) : s.reportUnits.ports = s.ports := rfl
@[simp] theorem State.reportUnits_engineEnable (s : State) : s.reportUnits.engineEnable = s.engineEnable := rfl
@[simp] theorem State.reportUnits_channels (s : State) : s.reportUnits.channels = s.channels := rfl
@[simp] theorem State.reportUnits_nu (s : State) : s.reportUnits.nu = s.nu := rfl
@[simp] theorem State.reportUnits_mgmtQueue (s : State) : s.reportUnits.mgmtQueue = s.mgmtQueue := rfl
@[simp] theorem State.reportUnits_managers (s : State) : s.reportUnits.managers = s.managers := rfl
@[simp] theorem State.reportUnits_li (s : State) : s.reportUnits.li = s.li := rfl
@[simp] theorem State.reportUnits_boot (s : State) : s.reportUnits.boot = s.boot := rfl
@[simp] theorem State.reportUnits_cause (s : State) : s.reportUnits.cause = s.cause := rfl

/-! ## changeMode -/

@[simp] theorem State.changeMode_pending (s : State) (m : Mode) (c : ModeCause) : (s.changeMode m c).pending = s.pending := rfl
@[simp] theorem State.changeMode_resetn (s : State) (m : Mode) (c : ModeCause) : (s.changeMode m c).resetn = s.resetn := rfl
@[simp] theorem State.changeMode_windows (s : State) (m : Mode) (c : ModeCause) : (s.changeMode m c).windows = s.windows := rfl
@[simp] theorem State.changeMode_deferred (s : State) (m : Mode) (c : ModeCause) : (s.changeMode m c).deferred = s.deferred := rfl
@[simp] theorem State.changeMode_requestQueue (s : State) (m : Mode) (c : ModeCause) : (s.changeMode m c).requestQueue = s.requestQueue := rfl
@[simp] theorem State.changeMode_tags (s : State) (m : Mode) (c : ModeCause) : (s.changeMode m c).tags = s.tags := rfl
@[simp] theorem State.changeMode_tracking (s : State) (m : Mode) (c : ModeCause) : (s.changeMode m c).tracking = s.tracking := rfl
@[simp] theorem State.changeMode_ports (s : State) (m : Mode) (c : ModeCause) : (s.changeMode m c).ports = s.ports := rfl
@[simp] theorem State.changeMode_engineEnable (s : State) (m : Mode) (c : ModeCause) : (s.changeMode m c).engineEnable = s.engineEnable := rfl
@[simp] theorem State.changeMode_channels (s : State) (m : Mode) (c : ModeCause) : (s.changeMode m c).channels = s.channels := rfl
@[simp] theorem State.changeMode_mgmtQueue (s : State) (m : Mode) (c : ModeCause) : (s.changeMode m c).mgmtQueue = s.mgmtQueue := rfl
@[simp] theorem State.changeMode_managers (s : State) (m : Mode) (c : ModeCause) : (s.changeMode m c).managers = s.managers := rfl
@[simp] theorem State.changeMode_li (s : State) (m : Mode) (c : ModeCause) : (s.changeMode m c).li = s.li := rfl
@[simp] theorem State.changeMode_boot (s : State) (m : Mode) (c : ModeCause) : (s.changeMode m c).boot = s.boot := rfl
@[simp] theorem State.changeMode_cause (s : State) (m : Mode) (c : ModeCause) : (s.changeMode m c).cause = s.cause := rfl

/-! ## quench -/

@[simp] theorem State.quench_pending (s : State) : s.quench.pending = s.pending := rfl
@[simp] theorem State.quench_resetn (s : State) : s.quench.resetn = s.resetn := rfl
@[simp] theorem State.quench_windows (s : State) : s.quench.windows = s.windows := rfl
@[simp] theorem State.quench_deferred (s : State) : s.quench.deferred = s.deferred := rfl
@[simp] theorem State.quench_requestQueue (s : State) : s.quench.requestQueue = s.requestQueue := rfl
@[simp] theorem State.quench_tags (s : State) : s.quench.tags = s.tags := rfl
@[simp] theorem State.quench_tracking (s : State) : s.quench.tracking = s.tracking := rfl
@[simp] theorem State.quench_ports (s : State) : s.quench.ports = s.ports := rfl
@[simp] theorem State.quench_mc (s : State) : s.quench.mc = s.mc := rfl
@[simp] theorem State.quench_nu (s : State) : s.quench.nu = s.nu := rfl
@[simp] theorem State.quench_mgmtQueue (s : State) : s.quench.mgmtQueue = s.mgmtQueue := rfl
@[simp] theorem State.quench_managers (s : State) : s.quench.managers = s.managers := rfl
@[simp] theorem State.quench_li (s : State) : s.quench.li = s.li := rfl
@[simp] theorem State.quench_boot (s : State) : s.quench.boot = s.boot := rfl
@[simp] theorem State.quench_cause (s : State) : s.quench.cause = s.cause := rfl

/-! ## validFrame -/

@[simp] theorem State.validFrame_pending (s : State) : s.validFrame.pending = s.pending := rfl
@[simp] theorem State.validFrame_resetn (s : State) : s.validFrame.resetn = s.resetn := rfl
@[simp] theorem State.validFrame_windows (s : State) : s.validFrame.windows = s.windows := rfl
@[simp] theorem State.validFrame_deferred (s : State) : s.validFrame.deferred = s.deferred := rfl
@[simp] theorem State.validFrame_requestQueue (s : State) : s.validFrame.requestQueue = s.requestQueue := rfl
@[simp] theorem State.validFrame_tags (s : State) : s.validFrame.tags = s.tags := rfl
@[simp] theorem State.validFrame_tracking (s : State) : s.validFrame.tracking = s.tracking := rfl
@[simp] theorem State.validFrame_ports (s : State) : s.validFrame.ports = s.ports := rfl
@[simp] theorem State.validFrame_engineEnable (s : State) : s.validFrame.engineEnable = s.engineEnable := rfl
@[simp] theorem State.validFrame_channels (s : State) : s.validFrame.channels = s.channels := rfl
@[simp] theorem State.validFrame_nu (s : State) : s.validFrame.nu = s.nu := rfl
@[simp] theorem State.validFrame_mgmtQueue (s : State) : s.validFrame.mgmtQueue = s.mgmtQueue := rfl
@[simp] theorem State.validFrame_managers (s : State) : s.validFrame.managers = s.managers := rfl
@[simp] theorem State.validFrame_boot (s : State) : s.validFrame.boot = s.boot := rfl
@[simp] theorem State.validFrame_cause (s : State) : s.validFrame.cause = s.cause := rfl

/-! ## overrun -/

@[simp] theorem State.overrun_pending (s : State) (pool : Pool) : (s.overrun pool).pending = s.pending := rfl
@[simp] theorem State.overrun_resetn (s : State) (pool : Pool) : (s.overrun pool).resetn = s.resetn := rfl
@[simp] theorem State.overrun_windows (s : State) (pool : Pool) : (s.overrun pool).windows = s.windows := rfl
@[simp] theorem State.overrun_deferred (s : State) (pool : Pool) : (s.overrun pool).deferred = s.deferred := rfl
@[simp] theorem State.overrun_requestQueue (s : State) (pool : Pool) : (s.overrun pool).requestQueue = s.requestQueue := rfl
@[simp] theorem State.overrun_tags (s : State) (pool : Pool) : (s.overrun pool).tags = s.tags := rfl
@[simp] theorem State.overrun_tracking (s : State) (pool : Pool) : (s.overrun pool).tracking = s.tracking := rfl
@[simp] theorem State.overrun_ports (s : State) (pool : Pool) : (s.overrun pool).ports = s.ports := rfl
@[simp] theorem State.overrun_engineEnable (s : State) (pool : Pool) : (s.overrun pool).engineEnable = s.engineEnable := rfl
@[simp] theorem State.overrun_channels (s : State) (pool : Pool) : (s.overrun pool).channels = s.channels := rfl
@[simp] theorem State.overrun_mc (s : State) (pool : Pool) : (s.overrun pool).mc = s.mc := rfl
@[simp] theorem State.overrun_mgmtQueue (s : State) (pool : Pool) : (s.overrun pool).mgmtQueue = s.mgmtQueue := rfl
@[simp] theorem State.overrun_managers (s : State) (pool : Pool) : (s.overrun pool).managers = s.managers := rfl
@[simp] theorem State.overrun_boot (s : State) (pool : Pool) : (s.overrun pool).boot = s.boot := rfl
@[simp] theorem State.overrun_cause (s : State) (pool : Pool) : (s.overrun pool).cause = s.cause := rfl

/-! ## charge -/

@[simp] theorem State.charge_pending (s : State) (pool : Pool) (malformed : Bool) : (s.charge pool malformed).pending = s.pending := rfl
@[simp] theorem State.charge_resetn (s : State) (pool : Pool) (malformed : Bool) : (s.charge pool malformed).resetn = s.resetn := rfl
@[simp] theorem State.charge_windows (s : State) (pool : Pool) (malformed : Bool) : (s.charge pool malformed).windows = s.windows := rfl
@[simp] theorem State.charge_deferred (s : State) (pool : Pool) (malformed : Bool) : (s.charge pool malformed).deferred = s.deferred := rfl
@[simp] theorem State.charge_requestQueue (s : State) (pool : Pool) (malformed : Bool) : (s.charge pool malformed).requestQueue = s.requestQueue := rfl
@[simp] theorem State.charge_tags (s : State) (pool : Pool) (malformed : Bool) : (s.charge pool malformed).tags = s.tags := rfl
@[simp] theorem State.charge_tracking (s : State) (pool : Pool) (malformed : Bool) : (s.charge pool malformed).tracking = s.tracking := rfl
@[simp] theorem State.charge_ports (s : State) (pool : Pool) (malformed : Bool) : (s.charge pool malformed).ports = s.ports := rfl
@[simp] theorem State.charge_engineEnable (s : State) (pool : Pool) (malformed : Bool) : (s.charge pool malformed).engineEnable = s.engineEnable := rfl
@[simp] theorem State.charge_channels (s : State) (pool : Pool) (malformed : Bool) : (s.charge pool malformed).channels = s.channels := rfl
@[simp] theorem State.charge_mc (s : State) (pool : Pool) (malformed : Bool) : (s.charge pool malformed).mc = s.mc := rfl
@[simp] theorem State.charge_nu (s : State) (pool : Pool) (malformed : Bool) : (s.charge pool malformed).nu = s.nu := rfl
@[simp] theorem State.charge_mgmtQueue (s : State) (pool : Pool) (malformed : Bool) : (s.charge pool malformed).mgmtQueue = s.mgmtQueue := rfl
@[simp] theorem State.charge_managers (s : State) (pool : Pool) (malformed : Bool) : (s.charge pool malformed).managers = s.managers := rfl
@[simp] theorem State.charge_boot (s : State) (pool : Pool) (malformed : Bool) : (s.charge pool malformed).boot = s.boot := rfl
@[simp] theorem State.charge_cause (s : State) (pool : Pool) (malformed : Bool) : (s.charge pool malformed).cause = s.cause := rfl

/-! ## placeCommand -/

@[simp] theorem State.placeCommand_pending (s : State) (f : MgmtFrame) (c : Command) : (s.placeCommand f c).pending = s.pending := rfl
@[simp] theorem State.placeCommand_resetn (s : State) (f : MgmtFrame) (c : Command) : (s.placeCommand f c).resetn = s.resetn := rfl
@[simp] theorem State.placeCommand_windows (s : State) (f : MgmtFrame) (c : Command) : (s.placeCommand f c).windows = s.windows := rfl
@[simp] theorem State.placeCommand_deferred (s : State) (f : MgmtFrame) (c : Command) : (s.placeCommand f c).deferred = s.deferred := rfl
@[simp] theorem State.placeCommand_requestQueue (s : State) (f : MgmtFrame) (c : Command) : (s.placeCommand f c).requestQueue = s.requestQueue := rfl
@[simp] theorem State.placeCommand_tracking (s : State) (f : MgmtFrame) (c : Command) : (s.placeCommand f c).tracking = s.tracking := rfl
@[simp] theorem State.placeCommand_ports (s : State) (f : MgmtFrame) (c : Command) : (s.placeCommand f c).ports = s.ports := rfl
@[simp] theorem State.placeCommand_engineEnable (s : State) (f : MgmtFrame) (c : Command) : (s.placeCommand f c).engineEnable = s.engineEnable := rfl
@[simp] theorem State.placeCommand_channels (s : State) (f : MgmtFrame) (c : Command) : (s.placeCommand f c).channels = s.channels := rfl
@[simp] theorem State.placeCommand_mc (s : State) (f : MgmtFrame) (c : Command) : (s.placeCommand f c).mc = s.mc := rfl
@[simp] theorem State.placeCommand_nu (s : State) (f : MgmtFrame) (c : Command) : (s.placeCommand f c).nu = s.nu := rfl
@[simp] theorem State.placeCommand_managers (s : State) (f : MgmtFrame) (c : Command) : (s.placeCommand f c).managers = s.managers := rfl
@[simp] theorem State.placeCommand_li (s : State) (f : MgmtFrame) (c : Command) : (s.placeCommand f c).li = s.li := rfl
@[simp] theorem State.placeCommand_boot (s : State) (f : MgmtFrame) (c : Command) : (s.placeCommand f c).boot = s.boot := rfl
@[simp] theorem State.placeCommand_cause (s : State) (f : MgmtFrame) (c : Command) : (s.placeCommand f c).cause = s.cause := rfl

/-! ## endDeferred -/

@[simp] theorem State.endDeferred_pending (s : State) : s.endDeferred.pending = s.pending := rfl
@[simp] theorem State.endDeferred_resetn (s : State) : s.endDeferred.resetn = s.resetn := rfl
@[simp] theorem State.endDeferred_windows (s : State) : s.endDeferred.windows = s.windows := rfl
@[simp] theorem State.endDeferred_requestQueue (s : State) : s.endDeferred.requestQueue = s.requestQueue := rfl
@[simp] theorem State.endDeferred_tags (s : State) : s.endDeferred.tags = s.tags := rfl
@[simp] theorem State.endDeferred_tracking (s : State) : s.endDeferred.tracking = s.tracking := rfl
@[simp] theorem State.endDeferred_ports (s : State) : s.endDeferred.ports = s.ports := rfl
@[simp] theorem State.endDeferred_engineEnable (s : State) : s.endDeferred.engineEnable = s.engineEnable := rfl
@[simp] theorem State.endDeferred_channels (s : State) : s.endDeferred.channels = s.channels := rfl
@[simp] theorem State.endDeferred_mc (s : State) : s.endDeferred.mc = s.mc := rfl
@[simp] theorem State.endDeferred_nu (s : State) : s.endDeferred.nu = s.nu := rfl
@[simp] theorem State.endDeferred_mgmtQueue (s : State) : s.endDeferred.mgmtQueue = s.mgmtQueue := rfl
@[simp] theorem State.endDeferred_managers (s : State) : s.endDeferred.managers = s.managers := rfl
@[simp] theorem State.endDeferred_li (s : State) : s.endDeferred.li = s.li := rfl
@[simp] theorem State.endDeferred_boot (s : State) : s.endDeferred.boot = s.boot := rfl
@[simp] theorem State.endDeferred_cause (s : State) : s.endDeferred.cause = s.cause := rfl

/-! ## startDrain -/

@[simp] theorem State.startDrain_pending (s : State) (f : MgmtFrame) (i : WindowIdx) (x : PendingChange) (d : BitVec 8) : (s.startDrain f i x d).pending = s.pending := rfl
@[simp] theorem State.startDrain_resetn (s : State) (f : MgmtFrame) (i : WindowIdx) (x : PendingChange) (d : BitVec 8) : (s.startDrain f i x d).resetn = s.resetn := rfl
@[simp] theorem State.startDrain_requestQueue (s : State) (f : MgmtFrame) (i : WindowIdx) (x : PendingChange) (d : BitVec 8) : (s.startDrain f i x d).requestQueue = s.requestQueue := rfl
@[simp] theorem State.startDrain_tags (s : State) (f : MgmtFrame) (i : WindowIdx) (x : PendingChange) (d : BitVec 8) : (s.startDrain f i x d).tags = s.tags := rfl
@[simp] theorem State.startDrain_tracking (s : State) (f : MgmtFrame) (i : WindowIdx) (x : PendingChange) (d : BitVec 8) : (s.startDrain f i x d).tracking = s.tracking := rfl
@[simp] theorem State.startDrain_ports (s : State) (f : MgmtFrame) (i : WindowIdx) (x : PendingChange) (d : BitVec 8) : (s.startDrain f i x d).ports = s.ports := rfl
@[simp] theorem State.startDrain_engineEnable (s : State) (f : MgmtFrame) (i : WindowIdx) (x : PendingChange) (d : BitVec 8) : (s.startDrain f i x d).engineEnable = s.engineEnable := rfl
@[simp] theorem State.startDrain_channels (s : State) (f : MgmtFrame) (i : WindowIdx) (x : PendingChange) (d : BitVec 8) : (s.startDrain f i x d).channels = s.channels := rfl
@[simp] theorem State.startDrain_mc (s : State) (f : MgmtFrame) (i : WindowIdx) (x : PendingChange) (d : BitVec 8) : (s.startDrain f i x d).mc = s.mc := rfl
@[simp] theorem State.startDrain_nu (s : State) (f : MgmtFrame) (i : WindowIdx) (x : PendingChange) (d : BitVec 8) : (s.startDrain f i x d).nu = s.nu := rfl
@[simp] theorem State.startDrain_mgmtQueue (s : State) (f : MgmtFrame) (i : WindowIdx) (x : PendingChange) (d : BitVec 8) : (s.startDrain f i x d).mgmtQueue = s.mgmtQueue := rfl
@[simp] theorem State.startDrain_managers (s : State) (f : MgmtFrame) (i : WindowIdx) (x : PendingChange) (d : BitVec 8) : (s.startDrain f i x d).managers = s.managers := rfl
@[simp] theorem State.startDrain_li (s : State) (f : MgmtFrame) (i : WindowIdx) (x : PendingChange) (d : BitVec 8) : (s.startDrain f i x d).li = s.li := rfl
@[simp] theorem State.startDrain_boot (s : State) (f : MgmtFrame) (i : WindowIdx) (x : PendingChange) (d : BitVec 8) : (s.startDrain f i x d).boot = s.boot := rfl
@[simp] theorem State.startDrain_cause (s : State) (f : MgmtFrame) (i : WindowIdx) (x : PendingChange) (d : BitVec 8) : (s.startDrain f i x d).cause = s.cause := rfl

/-! ## remapUnless -/

@[simp] theorem State.remapUnless_pending (s : State) (keep : QueueEntry → Bool) : (s.remapUnless keep).pending = s.pending := rfl
@[simp] theorem State.remapUnless_resetn (s : State) (keep : QueueEntry → Bool) : (s.remapUnless keep).resetn = s.resetn := rfl
@[simp] theorem State.remapUnless_windows (s : State) (keep : QueueEntry → Bool) : (s.remapUnless keep).windows = s.windows := rfl
@[simp] theorem State.remapUnless_deferred (s : State) (keep : QueueEntry → Bool) : (s.remapUnless keep).deferred = s.deferred := rfl
@[simp] theorem State.remapUnless_tags (s : State) (keep : QueueEntry → Bool) : (s.remapUnless keep).tags = s.tags := rfl
@[simp] theorem State.remapUnless_tracking (s : State) (keep : QueueEntry → Bool) : (s.remapUnless keep).tracking = s.tracking := rfl
@[simp] theorem State.remapUnless_ports (s : State) (keep : QueueEntry → Bool) : (s.remapUnless keep).ports = s.ports := rfl
@[simp] theorem State.remapUnless_engineEnable (s : State) (keep : QueueEntry → Bool) : (s.remapUnless keep).engineEnable = s.engineEnable := rfl
@[simp] theorem State.remapUnless_channels (s : State) (keep : QueueEntry → Bool) : (s.remapUnless keep).channels = s.channels := rfl
@[simp] theorem State.remapUnless_nu (s : State) (keep : QueueEntry → Bool) : (s.remapUnless keep).nu = s.nu := rfl
@[simp] theorem State.remapUnless_mgmtQueue (s : State) (keep : QueueEntry → Bool) : (s.remapUnless keep).mgmtQueue = s.mgmtQueue := rfl
@[simp] theorem State.remapUnless_managers (s : State) (keep : QueueEntry → Bool) : (s.remapUnless keep).managers = s.managers := rfl
@[simp] theorem State.remapUnless_boot (s : State) (keep : QueueEntry → Bool) : (s.remapUnless keep).boot = s.boot := rfl
@[simp] theorem State.remapUnless_cause (s : State) (keep : QueueEntry → Bool) : (s.remapUnless keep).cause = s.cause := rfl

/-! ## setStopOnQuiet -/

@[simp] theorem State.setStopOnQuiet_pending (s : State) (b : Bool) : (s.setStopOnQuiet b).pending = s.pending := rfl
@[simp] theorem State.setStopOnQuiet_resetn (s : State) (b : Bool) : (s.setStopOnQuiet b).resetn = s.resetn := rfl
@[simp] theorem State.setStopOnQuiet_windows (s : State) (b : Bool) : (s.setStopOnQuiet b).windows = s.windows := rfl
@[simp] theorem State.setStopOnQuiet_deferred (s : State) (b : Bool) : (s.setStopOnQuiet b).deferred = s.deferred := rfl
@[simp] theorem State.setStopOnQuiet_requestQueue (s : State) (b : Bool) : (s.setStopOnQuiet b).requestQueue = s.requestQueue := rfl
@[simp] theorem State.setStopOnQuiet_tags (s : State) (b : Bool) : (s.setStopOnQuiet b).tags = s.tags := rfl
@[simp] theorem State.setStopOnQuiet_tracking (s : State) (b : Bool) : (s.setStopOnQuiet b).tracking = s.tracking := rfl
@[simp] theorem State.setStopOnQuiet_ports (s : State) (b : Bool) : (s.setStopOnQuiet b).ports = s.ports := rfl
@[simp] theorem State.setStopOnQuiet_engineEnable (s : State) (b : Bool) : (s.setStopOnQuiet b).engineEnable = s.engineEnable := rfl
@[simp] theorem State.setStopOnQuiet_channels (s : State) (b : Bool) : (s.setStopOnQuiet b).channels = s.channels := rfl
@[simp] theorem State.setStopOnQuiet_nu (s : State) (b : Bool) : (s.setStopOnQuiet b).nu = s.nu := rfl
@[simp] theorem State.setStopOnQuiet_mgmtQueue (s : State) (b : Bool) : (s.setStopOnQuiet b).mgmtQueue = s.mgmtQueue := rfl
@[simp] theorem State.setStopOnQuiet_managers (s : State) (b : Bool) : (s.setStopOnQuiet b).managers = s.managers := rfl
@[simp] theorem State.setStopOnQuiet_li (s : State) (b : Bool) : (s.setStopOnQuiet b).li = s.li := rfl
@[simp] theorem State.setStopOnQuiet_boot (s : State) (b : Bool) : (s.setStopOnQuiet b).boot = s.boot := rfl
@[simp] theorem State.setStopOnQuiet_cause (s : State) (b : Bool) : (s.setStopOnQuiet b).cause = s.cause := rfl

/-! ## restartSupervision -/

@[simp] theorem State.restartSupervision_pending (s : State) : s.restartSupervision.pending = s.pending := rfl
@[simp] theorem State.restartSupervision_resetn (s : State) : s.restartSupervision.resetn = s.resetn := rfl
@[simp] theorem State.restartSupervision_windows (s : State) : s.restartSupervision.windows = s.windows := rfl
@[simp] theorem State.restartSupervision_deferred (s : State) : s.restartSupervision.deferred = s.deferred := rfl
@[simp] theorem State.restartSupervision_requestQueue (s : State) : s.restartSupervision.requestQueue = s.requestQueue := rfl
@[simp] theorem State.restartSupervision_tags (s : State) : s.restartSupervision.tags = s.tags := rfl
@[simp] theorem State.restartSupervision_tracking (s : State) : s.restartSupervision.tracking = s.tracking := rfl
@[simp] theorem State.restartSupervision_ports (s : State) : s.restartSupervision.ports = s.ports := rfl
@[simp] theorem State.restartSupervision_engineEnable (s : State) : s.restartSupervision.engineEnable = s.engineEnable := rfl
@[simp] theorem State.restartSupervision_channels (s : State) : s.restartSupervision.channels = s.channels := rfl
@[simp] theorem State.restartSupervision_nu (s : State) : s.restartSupervision.nu = s.nu := rfl
@[simp] theorem State.restartSupervision_mgmtQueue (s : State) : s.restartSupervision.mgmtQueue = s.mgmtQueue := rfl
@[simp] theorem State.restartSupervision_managers (s : State) : s.restartSupervision.managers = s.managers := rfl
@[simp] theorem State.restartSupervision_li (s : State) : s.restartSupervision.li = s.li := rfl
@[simp] theorem State.restartSupervision_boot (s : State) : s.restartSupervision.boot = s.boot := rfl
@[simp] theorem State.restartSupervision_cause (s : State) : s.restartSupervision.cause = s.cause := rfl

/-! ## tick -/

@[simp] theorem State.tick_pending (s : State) : s.tick.pending = s.pending := rfl
@[simp] theorem State.tick_resetn (s : State) : s.tick.resetn = s.resetn := rfl
@[simp] theorem State.tick_windows (s : State) : s.tick.windows = s.windows := rfl
@[simp] theorem State.tick_requestQueue (s : State) : s.tick.requestQueue = s.requestQueue := rfl
@[simp] theorem State.tick_tags (s : State) : s.tick.tags = s.tags := rfl
@[simp] theorem State.tick_tracking (s : State) : s.tick.tracking = s.tracking := rfl
@[simp] theorem State.tick_engineEnable (s : State) : s.tick.engineEnable = s.engineEnable := rfl
@[simp] theorem State.tick_channels (s : State) : s.tick.channels = s.channels := rfl
@[simp] theorem State.tick_nu (s : State) : s.tick.nu = s.nu := rfl
@[simp] theorem State.tick_mgmtQueue (s : State) : s.tick.mgmtQueue = s.mgmtQueue := rfl
@[simp] theorem State.tick_managers (s : State) : s.tick.managers = s.managers := rfl
@[simp] theorem State.tick_boot (s : State) : s.tick.boot = s.boot := rfl
@[simp] theorem State.tick_cause (s : State) : s.tick.cause = s.cause := rfl

/-! ## raiseRestored -/

@[simp] theorem State.raiseRestored_pending (s : State) (b : Bool) : (s.raiseRestored b).pending = s.pending := by cases b <;> rfl
@[simp] theorem State.raiseRestored_resetn (s : State) (b : Bool) : (s.raiseRestored b).resetn = s.resetn := by cases b <;> rfl
@[simp] theorem State.raiseRestored_windows (s : State) (b : Bool) : (s.raiseRestored b).windows = s.windows := by cases b <;> rfl
@[simp] theorem State.raiseRestored_deferred (s : State) (b : Bool) : (s.raiseRestored b).deferred = s.deferred := by cases b <;> rfl
@[simp] theorem State.raiseRestored_requestQueue (s : State) (b : Bool) : (s.raiseRestored b).requestQueue = s.requestQueue := by cases b <;> rfl
@[simp] theorem State.raiseRestored_tags (s : State) (b : Bool) : (s.raiseRestored b).tags = s.tags := by cases b <;> rfl
@[simp] theorem State.raiseRestored_tracking (s : State) (b : Bool) : (s.raiseRestored b).tracking = s.tracking := by cases b <;> rfl
@[simp] theorem State.raiseRestored_ports (s : State) (b : Bool) : (s.raiseRestored b).ports = s.ports := by cases b <;> rfl
@[simp] theorem State.raiseRestored_engineEnable (s : State) (b : Bool) : (s.raiseRestored b).engineEnable = s.engineEnable := by cases b <;> rfl
@[simp] theorem State.raiseRestored_channels (s : State) (b : Bool) : (s.raiseRestored b).channels = s.channels := by cases b <;> rfl
@[simp] theorem State.raiseRestored_mc (s : State) (b : Bool) : (s.raiseRestored b).mc = s.mc := by cases b <;> rfl
@[simp] theorem State.raiseRestored_mgmtQueue (s : State) (b : Bool) : (s.raiseRestored b).mgmtQueue = s.mgmtQueue := by cases b <;> rfl
@[simp] theorem State.raiseRestored_managers (s : State) (b : Bool) : (s.raiseRestored b).managers = s.managers := by cases b <;> rfl
@[simp] theorem State.raiseRestored_li (s : State) (b : Bool) : (s.raiseRestored b).li = s.li := by cases b <;> rfl
@[simp] theorem State.raiseRestored_boot (s : State) (b : Bool) : (s.raiseRestored b).boot = s.boot := by cases b <;> rfl
@[simp] theorem State.raiseRestored_cause (s : State) (b : Bool) : (s.raiseRestored b).cause = s.cause := by cases b <;> rfl

/-! ## Reading a record after an update -/

@[simp] theorem getElem_tabulate {α : Type} {n : Nat} (f : Fin n → α) (i : Nat) (h : i < n) : (tabulate f)[i] = f ⟨i, h⟩ := by
  simp [tabulate]

theorem State.window_setWindow (s : State) (i j : WindowIdx) (w : Window) :
    (s.setWindow i w).window j = if i = j then w else s.window j := by
  simp [State.window, State.setWindow, Vector.getElem_set, Fin.ext_iff]

@[simp] theorem State.window_setWindow_self (s : State) (i : WindowIdx) (w : Window) : (s.setWindow i w).window i = w := by
  simp [State.window_setWindow]

@[simp] theorem State.window_mapWindows (s : State) (f : Window → Window) (i : WindowIdx) :
    (s.mapWindows f).window i = f (s.window i) := by
  simp [State.window, State.mapWindows]

theorem State.port_updPort (s : State) (p q : PortId) (f : Port → Port) :
    (s.updPort p f).port q = if p = q then f (s.port p) else s.port q := by
  simp [State.port, State.updPort, Vector.getElem_set, Fin.ext_iff]

@[simp] theorem State.port_updPort_self (s : State) (p : PortId) (f : Port → Port) :
    (s.updPort p f).port p = f (s.port p) := by
  simp [State.port_updPort]

@[simp] theorem State.port_mapPorts (s : State) (f : Port → Port) (p : PortId) :
    (s.mapPorts f).port p = f (s.port p) := by
  simp [State.port, State.mapPorts]

theorem State.channel_setChannel (s : State) (c d : ChannelId) (ch : Channel) :
    (s.setChannel c ch).channel d = if c = d then ch else s.channel d := by
  simp [State.channel, State.setChannel, Vector.getElem_set, Fin.ext_iff]

@[simp] theorem State.channel_setChannel_self (s : State) (c : ChannelId) (ch : Channel) :
    (s.setChannel c ch).channel c = ch := by
  simp [State.channel_setChannel]

@[simp] theorem State.channel_mapChannels (s : State) (f : Channel → Channel) (c : ChannelId) :
    (s.mapChannels f).channel c = f (s.channel c) := by
  simp [State.channel, State.mapChannels]

theorem Port.slot_setSlot (p : Port) (j k : SlotId) (sl : Slot) :
    (p.setSlot j sl).slot k = if j = k then sl else p.slot k := by
  simp [Port.slot, Port.setSlot, Vector.getElem_set, Fin.ext_iff]

/-! ## Records that keep a component when nothing in it changed -/

@[simp] theorem State.window_updPort (s : State) (p : PortId) (f : Port → Port) : (s.updPort p f).window = s.window := rfl
@[simp] theorem State.window_mapPorts (s : State) (f : Port → Port) : (s.mapPorts f).window = s.window := rfl
@[simp] theorem State.window_setChannel (s : State) (c : ChannelId) (ch : Channel) : (s.setChannel c ch).window = s.window := rfl
@[simp] theorem State.window_mapChannels (s : State) (f : Channel → Channel) : (s.mapChannels f).window = s.window := rfl
@[simp] theorem State.window_updEntry (s : State) (i : TrackIdx) (f : TrackEntry → TrackEntry) : (s.updEntry i f).window = s.window := rfl
@[simp] theorem State.window_dropEntry (s : State) (i : TrackIdx) : (s.dropEntry i).window = s.window := rfl
@[simp] theorem State.window_raise (s : State) (n : Notice) : (s.raise n).window = s.window := rfl
@[simp] theorem State.window_respond (s : State) (r : Response) : (s.respond r).window = s.window := rfl
@[simp] theorem State.window_enterTag (s : State) (x : Pair) : (s.enterTag x).window = s.window := rfl
@[simp] theorem State.window_releaseTag (s : State) (x : Pair) : (s.releaseTag x).window = s.window := rfl
@[simp] theorem State.window_answerMgmt (s : State) (r : Response) : (s.answerMgmt r).window = s.window := rfl
@[simp] theorem State.window_reportQueue (s : State) : s.reportQueue.window = s.window := rfl
@[simp] theorem State.window_reportTracking (s : State) : s.reportTracking.window = s.window := rfl
@[simp] theorem State.window_reportUnits (s : State) : s.reportUnits.window = s.window := rfl
@[simp] theorem State.window_changeMode (s : State) (m : Mode) (c : ModeCause) : (s.changeMode m c).window = s.window := rfl
@[simp] theorem State.window_quench (s : State) : s.quench.window = s.window := rfl
@[simp] theorem State.window_validFrame (s : State) : s.validFrame.window = s.window := rfl
@[simp] theorem State.window_overrun (s : State) (pool : Pool) : (s.overrun pool).window = s.window := rfl
@[simp] theorem State.window_charge (s : State) (pool : Pool) (malformed : Bool) : (s.charge pool malformed).window = s.window := rfl
@[simp] theorem State.window_placeCommand (s : State) (f : MgmtFrame) (c : Command) : (s.placeCommand f c).window = s.window := rfl
@[simp] theorem State.window_endDeferred (s : State) : s.endDeferred.window = s.window := rfl
@[simp] theorem State.window_remapUnless (s : State) (keep : QueueEntry → Bool) : (s.remapUnless keep).window = s.window := rfl
@[simp] theorem State.window_setStopOnQuiet (s : State) (b : Bool) : (s.setStopOnQuiet b).window = s.window := rfl
@[simp] theorem State.window_restartSupervision (s : State) : s.restartSupervision.window = s.window := rfl
@[simp] theorem State.window_tick (s : State) : s.tick.window = s.window := rfl
@[simp] theorem State.window_raiseRestored (s : State) (b : Bool) : (s.raiseRestored b).window = s.window := by cases b <;> rfl

@[simp] theorem State.port_setWindow (s : State) (i : WindowIdx) (w : Window) : (s.setWindow i w).port = s.port := rfl
@[simp] theorem State.port_mapWindows (s : State) (f : Window → Window) : (s.mapWindows f).port = s.port := rfl
@[simp] theorem State.port_setChannel (s : State) (c : ChannelId) (ch : Channel) : (s.setChannel c ch).port = s.port := rfl
@[simp] theorem State.port_mapChannels (s : State) (f : Channel → Channel) : (s.mapChannels f).port = s.port := rfl
@[simp] theorem State.port_updEntry (s : State) (i : TrackIdx) (f : TrackEntry → TrackEntry) : (s.updEntry i f).port = s.port := rfl
@[simp] theorem State.port_dropEntry (s : State) (i : TrackIdx) : (s.dropEntry i).port = s.port := rfl
@[simp] theorem State.port_raise (s : State) (n : Notice) : (s.raise n).port = s.port := rfl
@[simp] theorem State.port_respond (s : State) (r : Response) : (s.respond r).port = s.port := rfl
@[simp] theorem State.port_enterTag (s : State) (x : Pair) : (s.enterTag x).port = s.port := rfl
@[simp] theorem State.port_releaseTag (s : State) (x : Pair) : (s.releaseTag x).port = s.port := rfl
@[simp] theorem State.port_answerMgmt (s : State) (r : Response) : (s.answerMgmt r).port = s.port := rfl
@[simp] theorem State.port_reportQueue (s : State) : s.reportQueue.port = s.port := rfl
@[simp] theorem State.port_reportTracking (s : State) : s.reportTracking.port = s.port := rfl
@[simp] theorem State.port_reportUnits (s : State) : s.reportUnits.port = s.port := rfl
@[simp] theorem State.port_changeMode (s : State) (m : Mode) (c : ModeCause) : (s.changeMode m c).port = s.port := rfl
@[simp] theorem State.port_quench (s : State) : s.quench.port = s.port := rfl
@[simp] theorem State.port_validFrame (s : State) : s.validFrame.port = s.port := rfl
@[simp] theorem State.port_overrun (s : State) (pool : Pool) : (s.overrun pool).port = s.port := rfl
@[simp] theorem State.port_charge (s : State) (pool : Pool) (malformed : Bool) : (s.charge pool malformed).port = s.port := rfl
@[simp] theorem State.port_placeCommand (s : State) (f : MgmtFrame) (c : Command) : (s.placeCommand f c).port = s.port := rfl
@[simp] theorem State.port_endDeferred (s : State) : s.endDeferred.port = s.port := rfl
@[simp] theorem State.port_startDrain (s : State) (f : MgmtFrame) (i : WindowIdx) (x : PendingChange) (d : BitVec 8) : (s.startDrain f i x d).port = s.port := rfl
@[simp] theorem State.port_remapUnless (s : State) (keep : QueueEntry → Bool) : (s.remapUnless keep).port = s.port := rfl
@[simp] theorem State.port_setStopOnQuiet (s : State) (b : Bool) : (s.setStopOnQuiet b).port = s.port := rfl
@[simp] theorem State.port_restartSupervision (s : State) : s.restartSupervision.port = s.port := rfl
@[simp] theorem State.port_raiseRestored (s : State) (b : Bool) : (s.raiseRestored b).port = s.port := by cases b <;> rfl

@[simp] theorem State.channel_setWindow (s : State) (i : WindowIdx) (w : Window) : (s.setWindow i w).channel = s.channel := rfl
@[simp] theorem State.channel_mapWindows (s : State) (f : Window → Window) : (s.mapWindows f).channel = s.channel := rfl
@[simp] theorem State.channel_updPort (s : State) (p : PortId) (f : Port → Port) : (s.updPort p f).channel = s.channel := rfl
@[simp] theorem State.channel_mapPorts (s : State) (f : Port → Port) : (s.mapPorts f).channel = s.channel := rfl
@[simp] theorem State.channel_updEntry (s : State) (i : TrackIdx) (f : TrackEntry → TrackEntry) : (s.updEntry i f).channel = s.channel := rfl
@[simp] theorem State.channel_dropEntry (s : State) (i : TrackIdx) : (s.dropEntry i).channel = s.channel := rfl
@[simp] theorem State.channel_raise (s : State) (n : Notice) : (s.raise n).channel = s.channel := rfl
@[simp] theorem State.channel_respond (s : State) (r : Response) : (s.respond r).channel = s.channel := rfl
@[simp] theorem State.channel_enterTag (s : State) (x : Pair) : (s.enterTag x).channel = s.channel := rfl
@[simp] theorem State.channel_releaseTag (s : State) (x : Pair) : (s.releaseTag x).channel = s.channel := rfl
@[simp] theorem State.channel_answerMgmt (s : State) (r : Response) : (s.answerMgmt r).channel = s.channel := rfl
@[simp] theorem State.channel_reportQueue (s : State) : s.reportQueue.channel = s.channel := rfl
@[simp] theorem State.channel_reportTracking (s : State) : s.reportTracking.channel = s.channel := rfl
@[simp] theorem State.channel_reportUnits (s : State) : s.reportUnits.channel = s.channel := rfl
@[simp] theorem State.channel_changeMode (s : State) (m : Mode) (c : ModeCause) : (s.changeMode m c).channel = s.channel := rfl
@[simp] theorem State.channel_validFrame (s : State) : s.validFrame.channel = s.channel := rfl
@[simp] theorem State.channel_overrun (s : State) (pool : Pool) : (s.overrun pool).channel = s.channel := rfl
@[simp] theorem State.channel_charge (s : State) (pool : Pool) (malformed : Bool) : (s.charge pool malformed).channel = s.channel := rfl
@[simp] theorem State.channel_placeCommand (s : State) (f : MgmtFrame) (c : Command) : (s.placeCommand f c).channel = s.channel := rfl
@[simp] theorem State.channel_endDeferred (s : State) : s.endDeferred.channel = s.channel := rfl
@[simp] theorem State.channel_startDrain (s : State) (f : MgmtFrame) (i : WindowIdx) (x : PendingChange) (d : BitVec 8) : (s.startDrain f i x d).channel = s.channel := rfl
@[simp] theorem State.channel_remapUnless (s : State) (keep : QueueEntry → Bool) : (s.remapUnless keep).channel = s.channel := rfl
@[simp] theorem State.channel_setStopOnQuiet (s : State) (b : Bool) : (s.setStopOnQuiet b).channel = s.channel := rfl
@[simp] theorem State.channel_restartSupervision (s : State) : s.restartSupervision.channel = s.channel := rfl
@[simp] theorem State.channel_tick (s : State) : s.tick.channel = s.channel := rfl

/-- 1 µs for the part is 1 µs for each port. -/
theorem State.port_tick (s : State) (p : PortId) : s.tick.port p = (s.port p).tick := by simp [State.tick, State.port, State.mapPorts]

/-- 1 µs for a port is 1 µs for each of its slots (R78). -/
theorem Port.slot_tick (q : Port) (k : SlotId) : q.tick.slot k = (q.slot k).tick := by simp [Port.tick, Port.slot]
@[simp] theorem State.channel_raiseRestored (s : State) (b : Bool) : (s.raiseRestored b).channel = s.channel := by cases b <;> rfl

end Sys2Proof.Machine
end

