-- ==== Sys2Proof/Laws/Event.lean ====
section
/-! SUPPORT. What follows within an event, said once: dispatch until no entry is dispatchable, the arbiter until it has nothing to serve,
and the rules by which a property that each of their steps keeps is kept by all that follows. -/

namespace Sys2Proof.Machine

/-! ## Dispatch (R42) -/

/-- An entry that is dispatchable finds a free tracking entry (R41). -/
theorem State.oldestDispatchable_some {s : State} {e : QueueEntry} (h : s.oldestDispatchable = some e) :
    e ∈ s.requestQueue ∧ s.dispatchable e = true ∧ ∃ i, s.freeIndex? = some i := by
  have hd : s.dispatchable e = true := List.find?_some h
  refine ⟨List.mem_of_find?_eq_some h, hd, Option.isSome_iff_exists.1 ?_⟩
  simp only [State.dispatchable, Bool.and_eq_true] at hd
  exact hd.1.1.2

/-- No entry is dispatchable (R42). -/
theorem State.oldestDispatchable_none {s : State} :
    s.oldestDispatchable = none ↔ ∀ e ∈ s.requestQueue, s.dispatchable e = false := by
  simp [State.oldestDispatchable]

theorem State.dispatchOne_none {s : State} (h : s.oldestDispatchable = none) : s.dispatchOne = s := by
  simp [State.dispatchOne, h]

theorem State.dispatchOne_some {s : State} {e : QueueEntry} {i : TrackIdx} (h : s.oldestDispatchable = some e)
    (hi : s.freeIndex? = some i) : s.dispatchOne = s.dispatchEntry e i := by
  simp [State.dispatchOne, h, hi]

@[simp] theorem State.dispatchEntry_requestQueue (s : State) (e : QueueEntry) (i : TrackIdx) :
    (s.dispatchEntry e i).requestQueue = s.requestQueue.erase e := by
  simp only [State.dispatchEntry]
  split <;> rfl

/-- A dispatch takes one entry from the queue (R43). -/
theorem State.dispatchOne_length {s : State} (h : s.oldestDispatchable ≠ none) :
    s.dispatchOne.requestQueue.length + 1 = s.requestQueue.length := by
  obtain ⟨e, he⟩ := Option.ne_none_iff_exists'.1 h
  obtain ⟨hm, _, i, hi⟩ := State.oldestDispatchable_some he
  rw [State.dispatchOne_some he hi, State.dispatchEntry_requestQueue, List.length_erase_of_mem hm]
  have := List.length_pos_of_mem hm
  omega

/-- Nothing is dispatched when no entry is dispatchable (R42). -/
theorem State.dispatchAll_none {s : State} (h : s.oldestDispatchable = none) : s.dispatchAll = s := by
  have : ∀ n, State.dispatchOne^[n] s = s := fun n => Function.iterate_fixed (State.dispatchOne_none h) n
  exact this _

/-- The oldest dispatchable entry goes first, and the queue is considered again (R42). -/
theorem State.dispatchAll_step {s : State} (h : s.oldestDispatchable ≠ none) : s.dispatchAll = s.dispatchOne.dispatchAll := by
  show State.dispatchOne^[s.requestQueue.length] s = State.dispatchOne^[s.dispatchOne.requestQueue.length] s.dispatchOne
  rw [← State.dispatchOne_length h, Function.iterate_succ_apply]

/-- What each dispatch keeps is kept by all of them, until none is dispatchable (R42). -/
theorem State.dispatchAll_keeps {P : State → Prop}
    (hd : ∀ s e i, P s → s.oldestDispatchable = some e → s.freeIndex? = some i → P (s.dispatchEntry e i)) {s : State} (h : P s) :
    P s.dispatchAll ∧ s.dispatchAll.oldestDispatchable = none := by
  induction hn : s.requestQueue.length using Nat.strong_induction_on generalizing s with
  | _ n ih =>
    by_cases hs : s.oldestDispatchable = none
    · rw [State.dispatchAll_none hs]
      exact ⟨h, hs⟩
    · obtain ⟨e, he⟩ := Option.ne_none_iff_exists'.1 hs
      obtain ⟨_, _, i, hi⟩ := State.oldestDispatchable_some he
      rw [State.dispatchAll_step hs]
      have hl := State.dispatchOne_length hs
      refine ih _ (by omega) ?_ rfl
      rw [State.dispatchOne_some he hi]
      exact hd s e i h he hi

/-! ## The arbiters (R82) -/

/-- An arbiter that has chosen nothing serves nothing (R82). -/
theorem State.serve_none {s : State} {p : PortId} (h : s.arbiterChoice p = none) : s.serve p = s := by
  simp [State.serve, h]

/-- What an arbiter serves, by its choice (R82, R83). -/
theorem State.serve_keeps {P : State → Prop} {s : State} {p : PortId} (h : P s)
    (hold : s.arbiterChoice p = some .hold → P (s.updPort p Port.takeHold))
    (upkeep : ∀ k ks, s.arbiterChoice p = some .upkeep → (s.port p).freeOrder = k :: ks → P (s.updPort p fun q => q.issueUpkeep k))
    (boot : ∀ k ks, s.arbiterChoice p = some .boot → (s.port p).freeOrder = k :: ks → P (s.issueBootRead k))
    (copy : ∀ c cur k ks, s.arbiterChoice p = some (.copy c) → (s.channel c).current = some cur → (s.port p).freeOrder = k :: ks →
      P (s.issueHalf c cur p k))
    (entry : ∀ e k ks, s.arbiterChoice p = some (.upstream e) → (s.port p).freeOrder = k :: ks → P (s.issueEntry p e k)) :
    P (s.serve p) := by
  unfold State.serve
  split
  · exact hold ‹_›
  · exact upkeep _ _ ‹_› ‹_›
  · exact boot _ _ ‹_› ‹_›
  · split
    · exact copy _ _ _ _ ‹_› ‹_› ‹_›
    · exact h
  · exact entry _ _ _ ‹_› ‹_›
  · exact h

/-- What each service of an arbiter and the end of a settle keep is kept by the arbiter (R82, R88, R91). -/
theorem State.arbitrate_keeps {P : State → Prop} {p : PortId} (hs : ∀ s, P s → P (s.serve p))
    (he : ∀ s, P s → P (s.updPort p Port.settle)) {s : State} (h : P s) : P (s.arbitrate p) := by
  refine he _ ?_
  have : ∀ n s, P s → P (Nat.iterate (fun t => t.serve p) n s) := by
    intro n
    induction n with
    | zero => exact fun s h => h
    | succ n ih => exact fun s h => ih _ (hs s h)
  exact this _ _ h

/-- What every dispatch, the passage to QUIET, every service of an arbiter and every end of a settle keep is kept by all that follows
in an event (R42, R82, R88, R91, R137). -/
theorem State.followUp_keeps {P : State → Prop}
    (hd : ∀ s e i, P s → s.oldestDispatchable = some e → s.freeIndex? = some i → P (s.dispatchEntry e i))
    (hq : ∀ s, P s → s.mc.quietDue = true → P s.reachQuiet) (hs : ∀ s p, P s → P (s.serve p))
    (he : ∀ s p, P s → P (s.updPort p Port.settle)) {s : State} (h : P s) : P s.followUp := by
  have h1 : P s.dispatchAll.testQuiet := by
    have := (State.dispatchAll_keeps hd h).1
    unfold State.testQuiet
    split
    · exact hq _ this ‹_›
    · exact this
  have ha : ∀ p s, P s → P (s.arbitrate p) := fun p s h => State.arbitrate_keeps (fun s => hs s p) (fun s => he s p) h
  exact ha 3 _ (ha 2 _ (ha 1 _ (ha 0 _ h1)))

/-! ## Installs (R11, R23, R24) -/

/-- No install is due (R23, R24). -/
theorem State.installPending_none {s : State} (h : s.installDue = none) : s.installPending = s := by
  simp [State.installPending, h]

/-- What the install that is due keeps is kept (R23, R24). -/
theorem State.installPending_keeps {P : State → Prop} {s : State} (h : P s)
    (hi : ∀ d c, s.installDue = some (d, c) → P (s.installFor d c)) : P s.installPending := by
  unfold State.installPending
  split
  · exact hi _ _ ‹_›
  · exact h

end Sys2Proof.Machine
end

