-- ==== Sys2Proof/Laws/Received.lean ====
section
/-! SUPPORT. What the reception of a frame and the placing of a command leave alone, field by field. -/

namespace Sys2Proof.Machine

/-! ## received -/

@[simp] theorem State.received_pending (s : State) : s.received.pending = s.pending := rfl
@[simp] theorem State.received_resetn (s : State) : s.received.resetn = s.resetn := rfl
@[simp] theorem State.received_windows (s : State) : s.received.windows = s.windows := rfl
@[simp] theorem State.received_deferred (s : State) : s.received.deferred = s.deferred := rfl
@[simp] theorem State.received_requestQueue (s : State) : s.received.requestQueue = s.requestQueue := rfl
@[simp] theorem State.received_tags (s : State) : s.received.tags = s.tags := rfl
@[simp] theorem State.received_tracking (s : State) : s.received.tracking = s.tracking := rfl
@[simp] theorem State.received_ports (s : State) : s.received.ports = s.ports := rfl
@[simp] theorem State.received_engineEnable (s : State) : s.received.engineEnable = s.engineEnable := rfl
@[simp] theorem State.received_channels (s : State) : s.received.channels = s.channels := rfl
@[simp] theorem State.received_mgmtQueue (s : State) : s.received.mgmtQueue = s.mgmtQueue := rfl
@[simp] theorem State.received_managers (s : State) : s.received.managers = s.managers := rfl
@[simp] theorem State.received_boot (s : State) : s.received.boot = s.boot := rfl
@[simp] theorem State.received_cause (s : State) : s.received.cause = s.cause := rfl
@[simp] theorem State.window_received (s : State) : s.received.window = s.window := rfl
@[simp] theorem State.port_received (s : State) : s.received.port = s.port := rfl
@[simp] theorem State.channel_received (s : State) : s.received.channel = s.channel := rfl
@[simp] theorem State.entry_received (s : State) : s.received.entry? = s.entry? := rfl
@[simp] theorem State.freeIndex_received (s : State) : s.received.freeIndex? = s.freeIndex? := rfl
@[simp] theorem State.windowAt_received (s : State) : s.received.windowAt = s.windowAt := rfl
@[simp] theorem State.overlaps_received (s : State) : s.received.overlaps = s.overlaps := rfl
@[simp] theorem State.rankOf_received (s : State) : s.received.rankOf = s.rankOf := rfl
@[simp] theorem State.trackImage_received (s : State) : s.received.trackImage = s.trackImage := rfl
@[simp] theorem State.trackWords_received (s : State) : s.received.trackWords = s.trackWords := rfl

/-! ## receivedData -/

@[simp] theorem State.receivedData_pending (s : State) (f : DataFrame) : (s.receivedData f).pending = s.pending := rfl
@[simp] theorem State.receivedData_resetn (s : State) (f : DataFrame) : (s.receivedData f).resetn = s.resetn := rfl
@[simp] theorem State.receivedData_windows (s : State) (f : DataFrame) : (s.receivedData f).windows = s.windows := rfl
@[simp] theorem State.receivedData_deferred (s : State) (f : DataFrame) : (s.receivedData f).deferred = s.deferred := rfl
@[simp] theorem State.receivedData_requestQueue (s : State) (f : DataFrame) : (s.receivedData f).requestQueue = s.requestQueue := rfl
@[simp] theorem State.receivedData_tags (s : State) (f : DataFrame) : (s.receivedData f).tags = s.tags := rfl
@[simp] theorem State.receivedData_tracking (s : State) (f : DataFrame) : (s.receivedData f).tracking = s.tracking := rfl
@[simp] theorem State.receivedData_ports (s : State) (f : DataFrame) : (s.receivedData f).ports = s.ports := rfl
@[simp] theorem State.receivedData_engineEnable (s : State) (f : DataFrame) : (s.receivedData f).engineEnable = s.engineEnable := rfl
@[simp] theorem State.receivedData_channels (s : State) (f : DataFrame) : (s.receivedData f).channels = s.channels := rfl
@[simp] theorem State.receivedData_mgmtQueue (s : State) (f : DataFrame) : (s.receivedData f).mgmtQueue = s.mgmtQueue := rfl
@[simp] theorem State.receivedData_managers (s : State) (f : DataFrame) : (s.receivedData f).managers = s.managers := rfl
@[simp] theorem State.receivedData_boot (s : State) (f : DataFrame) : (s.receivedData f).boot = s.boot := rfl
@[simp] theorem State.receivedData_cause (s : State) (f : DataFrame) : (s.receivedData f).cause = s.cause := rfl
@[simp] theorem State.window_receivedData (s : State) (f : DataFrame) : (s.receivedData f).window = s.window := rfl
@[simp] theorem State.port_receivedData (s : State) (f : DataFrame) : (s.receivedData f).port = s.port := rfl
@[simp] theorem State.channel_receivedData (s : State) (f : DataFrame) : (s.receivedData f).channel = s.channel := rfl
@[simp] theorem State.entry_receivedData (s : State) (f : DataFrame) : (s.receivedData f).entry? = s.entry? := rfl
@[simp] theorem State.freeIndex_receivedData (s : State) (f : DataFrame) : (s.receivedData f).freeIndex? = s.freeIndex? := rfl
@[simp] theorem State.windowAt_receivedData (s : State) (f : DataFrame) : (s.receivedData f).windowAt = s.windowAt := rfl
@[simp] theorem State.overlaps_receivedData (s : State) (f : DataFrame) : (s.receivedData f).overlaps = s.overlaps := rfl
@[simp] theorem State.rankOf_receivedData (s : State) (f : DataFrame) : (s.receivedData f).rankOf = s.rankOf := rfl
@[simp] theorem State.trackImage_receivedData (s : State) (f : DataFrame) : (s.receivedData f).trackImage = s.trackImage := rfl
@[simp] theorem State.trackWords_receivedData (s : State) (f : DataFrame) : (s.receivedData f).trackWords = s.trackWords := rfl

/-! ## receivedMgmt -/

@[simp] theorem State.receivedMgmt_pending (s : State) (f : MgmtFrame) : (s.receivedMgmt f).pending = s.pending := rfl
@[simp] theorem State.receivedMgmt_resetn (s : State) (f : MgmtFrame) : (s.receivedMgmt f).resetn = s.resetn := rfl
@[simp] theorem State.receivedMgmt_windows (s : State) (f : MgmtFrame) : (s.receivedMgmt f).windows = s.windows := rfl
@[simp] theorem State.receivedMgmt_deferred (s : State) (f : MgmtFrame) : (s.receivedMgmt f).deferred = s.deferred := rfl
@[simp] theorem State.receivedMgmt_requestQueue (s : State) (f : MgmtFrame) : (s.receivedMgmt f).requestQueue = s.requestQueue := rfl
@[simp] theorem State.receivedMgmt_tags (s : State) (f : MgmtFrame) : (s.receivedMgmt f).tags = s.tags := rfl
@[simp] theorem State.receivedMgmt_tracking (s : State) (f : MgmtFrame) : (s.receivedMgmt f).tracking = s.tracking := rfl
@[simp] theorem State.receivedMgmt_ports (s : State) (f : MgmtFrame) : (s.receivedMgmt f).ports = s.ports := rfl
@[simp] theorem State.receivedMgmt_engineEnable (s : State) (f : MgmtFrame) : (s.receivedMgmt f).engineEnable = s.engineEnable := rfl
@[simp] theorem State.receivedMgmt_channels (s : State) (f : MgmtFrame) : (s.receivedMgmt f).channels = s.channels := rfl
@[simp] theorem State.receivedMgmt_mgmtQueue (s : State) (f : MgmtFrame) : (s.receivedMgmt f).mgmtQueue = s.mgmtQueue := rfl
@[simp] theorem State.receivedMgmt_managers (s : State) (f : MgmtFrame) : (s.receivedMgmt f).managers = s.managers := rfl
@[simp] theorem State.receivedMgmt_boot (s : State) (f : MgmtFrame) : (s.receivedMgmt f).boot = s.boot := rfl
@[simp] theorem State.receivedMgmt_cause (s : State) (f : MgmtFrame) : (s.receivedMgmt f).cause = s.cause := rfl
@[simp] theorem State.window_receivedMgmt (s : State) (f : MgmtFrame) : (s.receivedMgmt f).window = s.window := rfl
@[simp] theorem State.port_receivedMgmt (s : State) (f : MgmtFrame) : (s.receivedMgmt f).port = s.port := rfl
@[simp] theorem State.channel_receivedMgmt (s : State) (f : MgmtFrame) : (s.receivedMgmt f).channel = s.channel := rfl
@[simp] theorem State.entry_receivedMgmt (s : State) (f : MgmtFrame) : (s.receivedMgmt f).entry? = s.entry? := rfl
@[simp] theorem State.freeIndex_receivedMgmt (s : State) (f : MgmtFrame) : (s.receivedMgmt f).freeIndex? = s.freeIndex? := rfl
@[simp] theorem State.windowAt_receivedMgmt (s : State) (f : MgmtFrame) : (s.receivedMgmt f).windowAt = s.windowAt := rfl
@[simp] theorem State.overlaps_receivedMgmt (s : State) (f : MgmtFrame) : (s.receivedMgmt f).overlaps = s.overlaps := rfl
@[simp] theorem State.rankOf_receivedMgmt (s : State) (f : MgmtFrame) : (s.receivedMgmt f).rankOf = s.rankOf := rfl
@[simp] theorem State.trackImage_receivedMgmt (s : State) (f : MgmtFrame) : (s.receivedMgmt f).trackImage = s.trackImage := rfl
@[simp] theorem State.trackWords_receivedMgmt (s : State) (f : MgmtFrame) : (s.receivedMgmt f).trackWords = s.trackWords := rfl

/-! ## answerDeferred -/

@[simp] theorem State.answerDeferred_pending (s : State) (f : MgmtFrame) (c : Command) : (s.answerDeferred f c).pending = s.pending := rfl
@[simp] theorem State.answerDeferred_resetn (s : State) (f : MgmtFrame) (c : Command) : (s.answerDeferred f c).resetn = s.resetn := rfl
@[simp] theorem State.answerDeferred_windows (s : State) (f : MgmtFrame) (c : Command) : (s.answerDeferred f c).windows = s.windows := rfl
@[simp] theorem State.answerDeferred_deferred (s : State) (f : MgmtFrame) (c : Command) : (s.answerDeferred f c).deferred = s.deferred := rfl
@[simp] theorem State.answerDeferred_requestQueue (s : State) (f : MgmtFrame) (c : Command) : (s.answerDeferred f c).requestQueue = s.requestQueue := rfl
@[simp] theorem State.answerDeferred_tracking (s : State) (f : MgmtFrame) (c : Command) : (s.answerDeferred f c).tracking = s.tracking := rfl
@[simp] theorem State.answerDeferred_ports (s : State) (f : MgmtFrame) (c : Command) : (s.answerDeferred f c).ports = s.ports := rfl
@[simp] theorem State.answerDeferred_engineEnable (s : State) (f : MgmtFrame) (c : Command) : (s.answerDeferred f c).engineEnable = s.engineEnable := rfl
@[simp] theorem State.answerDeferred_channels (s : State) (f : MgmtFrame) (c : Command) : (s.answerDeferred f c).channels = s.channels := rfl
@[simp] theorem State.answerDeferred_managers (s : State) (f : MgmtFrame) (c : Command) : (s.answerDeferred f c).managers = s.managers := rfl
@[simp] theorem State.answerDeferred_boot (s : State) (f : MgmtFrame) (c : Command) : (s.answerDeferred f c).boot = s.boot := rfl
@[simp] theorem State.answerDeferred_cause (s : State) (f : MgmtFrame) (c : Command) : (s.answerDeferred f c).cause = s.cause := rfl
@[simp] theorem State.window_answerDeferred (s : State) (f : MgmtFrame) (c : Command) : (s.answerDeferred f c).window = s.window := rfl
@[simp] theorem State.port_answerDeferred (s : State) (f : MgmtFrame) (c : Command) : (s.answerDeferred f c).port = s.port := rfl
@[simp] theorem State.channel_answerDeferred (s : State) (f : MgmtFrame) (c : Command) : (s.answerDeferred f c).channel = s.channel := rfl
@[simp] theorem State.entry_answerDeferred (s : State) (f : MgmtFrame) (c : Command) : (s.answerDeferred f c).entry? = s.entry? := rfl
@[simp] theorem State.freeIndex_answerDeferred (s : State) (f : MgmtFrame) (c : Command) : (s.answerDeferred f c).freeIndex? = s.freeIndex? := rfl
@[simp] theorem State.windowAt_answerDeferred (s : State) (f : MgmtFrame) (c : Command) : (s.answerDeferred f c).windowAt = s.windowAt := rfl
@[simp] theorem State.overlaps_answerDeferred (s : State) (f : MgmtFrame) (c : Command) : (s.answerDeferred f c).overlaps = s.overlaps := rfl
@[simp] theorem State.rankOf_answerDeferred (s : State) (f : MgmtFrame) (c : Command) : (s.answerDeferred f c).rankOf = s.rankOf := rfl
@[simp] theorem State.trackImage_answerDeferred (s : State) (f : MgmtFrame) (c : Command) : (s.answerDeferred f c).trackImage = s.trackImage := rfl
@[simp] theorem State.trackWords_answerDeferred (s : State) (f : MgmtFrame) (c : Command) : (s.answerDeferred f c).trackWords = s.trackWords := rfl

@[simp] theorem State.received_mode (s : State) : s.received.mc.mode = s.mc.mode := rfl
@[simp] theorem State.received_responses (s : State) : s.received.li.responses = s.li.responses := rfl
@[simp] theorem State.receivedData_mc (s : State) (f : DataFrame) : (s.receivedData f).mc = s.received.mc := rfl
@[simp] theorem State.receivedData_nu (s : State) (f : DataFrame) : (s.receivedData f).nu = s.received.nu := rfl
@[simp] theorem State.receivedMgmt_mc (s : State) (f : MgmtFrame) : (s.receivedMgmt f).mc = s.received.mc := rfl
@[simp] theorem State.receivedMgmt_nu (s : State) (f : MgmtFrame) : (s.receivedMgmt f).nu = s.received.nu := rfl
@[simp] theorem State.receivedMgmt_responses (s : State) (f : MgmtFrame) : (s.receivedMgmt f).li.responses = s.li.responses := rfl
@[simp] theorem State.answerDeferred_mc (s : State) (f : MgmtFrame) (c : Command) : (s.answerDeferred f c).mc = s.received.mc := rfl
@[simp] theorem State.answerDeferred_nu (s : State) (f : MgmtFrame) (c : Command) : (s.answerDeferred f c).nu = s.received.nu := rfl
@[simp] theorem State.answerDeferred_li (s : State) (f : MgmtFrame) (c : Command) : (s.answerDeferred f c).li = (s.receivedMgmt f).li := rfl
@[simp] theorem State.answerDeferred_tags (s : State) (f : MgmtFrame) (c : Command) : (s.answerDeferred f c).tags = s.tags ++ [f.pair] := rfl
@[simp] theorem State.answerDeferred_mgmtQueue (s : State) (f : MgmtFrame) (c : Command) : (s.answerDeferred f c).mgmtQueue = s.mgmtQueue ++ [entryOf f c] := rfl

end Sys2Proof.Machine
end

