-- ==== Sys2Proof/Laws/Management.lean ====
section
/-! SUPPORT. What the reception of a REQUEST and the intake of a management command do, said once: every management command goes
through State.manage. -/

namespace Sys2Proof.Machine

/-- A frame that passes the check, with its LINK_RESTORED, leaves State.received. -/
theorem State.validFrame_raiseRestored (s : State) : s.validFrame.raiseRestored s.li.up = s.received := by
  cases hu : s.li.up <;>
    simp [State.validFrame, State.raiseRestored, State.received, hu, State.raise, LinkInterface.seen, ModeController.restart,
      Config.silenceMicros, Config.supervisionStepMicros]

/-- A REQUEST without credit (R175). -/
theorem State.receiveRequest_overrun (s : State) (pool : Pool) (m : Bool) (f : State → State) (h : s.resetn = false)
    (hc : s.li.credit pool = 0) : s.receiveRequest pool m f = s.receivedOverrun pool := by
  have : s.received.li.credit pool = 0 := by cases pool <;> exact hc
  simp [State.receiveRequest, h, State.validFrame_raiseRestored, this, State.overrun, State.receivedOverrun, State.raise]
  rfl

/-- A data REQUEST with credit (R174, R175). -/
theorem State.receiveRequest_data (s : State) (x : DataFrame) (f : State → State) (h : s.resetn = false)
    (hc : 0 < s.li.dataCredit) : s.receiveRequest .data x.malformed f = f (s.receivedData x) := by
  have : s.received.li.credit .data ≠ 0 := Nat.ne_of_gt hc
  simp only [State.receiveRequest, h, State.validFrame_raiseRestored, this, if_false, Bool.false_eq_true]
  congr 1
  cases hm : x.malformed <;> simp [State.charge, State.receivedData, hm, LinkInterface.setCredit, LinkInterface.credit] <;>
    exact ⟨rfl, rfl⟩

/-- A management REQUEST with credit (R174, R175). -/
theorem State.receiveRequest_mgmt (s : State) (x : MgmtFrame) (f : State → State) (h : s.resetn = false)
    (hc : 0 < s.li.mgmtCredit) : s.receiveRequest .management x.malformed f = f (s.receivedMgmt x) := by
  have : s.received.li.credit .management ≠ 0 := Nat.ne_of_gt hc
  simp only [State.receiveRequest, h, State.validFrame_raiseRestored, this, if_false, Bool.false_eq_true]
  congr 1
  cases hm : x.malformed <;> simp [State.charge, State.receivedMgmt, hm, LinkInterface.setCredit, LinkInterface.credit] <;>
    exact ⟨rfl, rfl⟩

/-- An accepted command is handed to its owning block in the state where its entry is placed (R160). -/
theorem State.manage_accepted (s : State) (c : Command) (n : Nat) (f : MgmtFrame) (act : Act) (h : CommandAccepted s f n) :
    s.manage c n f act = (act f (s.answerDeferred f c)).1.answerCommand f (act f (s.answerDeferred f c)).2 := by
  have hi : (s.receivedMgmt f).intakeRefusal f n = none := by
    have h1 : (s.receivedMgmt f).isManager f.requester = true := h.manager
    simp [State.intakeRefusal, h1, h.freshPair, h.wellFormed, h.operands]
  simp only [State.manage, State.receiveRequest_mgmt s f _ h.listening h.credit, State.intake, hi]
  rfl

/-- The entry of the command that has just been placed becomes ANSWERED, and no other changes (R160). -/
theorem answer_last (q : List MgmtEntry) (f : MgmtFrame) (c : Command) (h : ∀ e ∈ q, (e.requester, e.tag) ≠ f.pair) :
    (q ++ [entryOf f c]).map (MgmtEntry.answer f.pair) =
      q ++ [{ requester := f.requester, tag := f.tag, command := c, phase := .answered }] := by
  have hq : q.map (MgmtEntry.answer f.pair) = q := by
    refine (List.map_congr_left fun e he => ?_).trans (List.map_id q)
    simp [MgmtEntry.answer, h e he]
  rw [List.map_append, hq]
  simp [MgmtEntry.answer, entryOf, MgmtFrame.pair]

/-- An answer to the command that has just been placed, in a state whose management queue is as placing left it (R160). -/
theorem State.answerMgmt_placed (s t : State) (c : Command) (n : Nat) (f : MgmtFrame) (r : Response) (h : CommandAccepted s f n)
    (hq : t.mgmtQueue = s.mgmtQueue ++ [entryOf f c]) (hr : (r.requester, r.tag) = f.pair) :
    t.answerMgmt r =
      { t.responded r with
        mgmtQueue := s.mgmtQueue ++ [{ requester := f.requester, tag := f.tag, command := c, phase := .answered }] } := by
  simp only [State.answerMgmt, hq, hr, answer_last _ _ _ h.freshEntry]
  rfl

/-- An accepted command that its block answers OK (R160). -/
theorem State.manage_ok (s t : State) (c : Command) (n : Nat) (f : MgmtFrame) (act : Act) (data : List Word)
    (h : CommandAccepted s f n) (ha : act f (s.answerDeferred f c) = (t, .ok data))
    (hq : t.mgmtQueue = s.mgmtQueue ++ [entryOf f c]) :
    s.manage c n f act =
      { t.responded (okResponse f.requester f.tag .management data) with
        mgmtQueue := s.mgmtQueue ++ [{ requester := f.requester, tag := f.tag, command := c, phase := .answered }] } := by
  rw [State.manage_accepted s c n f act h, ha]
  exact State.answerMgmt_placed s t c n f _ h hq rfl

/-- An accepted command that is answered OK and gives other blocks something to do in the same event (R160). -/
theorem State.manage_done (s t : State) (c : Command) (n : Nat) (f : MgmtFrame) (act : Act)
    (h : CommandAccepted s f n) (ha : act f (s.answerDeferred f c) = (t, .done))
    (hq : t.mgmtQueue = s.mgmtQueue ++ [entryOf f c]) :
    s.manage c n f act =
      State.followUp
        { t.responded (okResponse f.requester f.tag .management []) with
          mgmtQueue := s.mgmtQueue ++ [{ requester := f.requester, tag := f.tag, command := c, phase := .answered }] } := by
  rw [State.manage_accepted s c n f act h, ha]
  simp only [State.answerCommand]
  rw [State.answerMgmt_placed s t c n f _ h hq rfl]

/-- An accepted command that its block answers OK with nothing changed (R160). -/
theorem State.manage_read (s : State) (c : Command) (n : Nat) (f : MgmtFrame) (act : Act) (data : List Word)
    (h : CommandAccepted s f n) (ha : act f (s.answerDeferred f c) = (s.answerDeferred f c, .ok data)) :
    s.manage c n f act = s.answeredOk f c data :=
  State.manage_ok s _ c n f act data h ha rfl

/-- An accepted command that its block refuses (R163). -/
theorem State.manage_refused (s : State) (c : Command) (n : Nat) (f : MgmtFrame) (act : Act) (r : Reason)
    (h : CommandAccepted s f n) (ha : act f (s.answerDeferred f c) = (s.answerDeferred f c, .refused r)) :
    s.manage c n f act = s.answeredRefused f c r := by
  rw [State.manage_accepted s c n f act h, ha]
  exact State.answerMgmt_placed s _ c n f _ h rfl rfl

/-- An accepted command whose answer is deferred (R161). -/
theorem State.manage_deferred (s t : State) (c : Command) (n : Nat) (f : MgmtFrame) (act : Act)
    (h : CommandAccepted s f n) (ha : act f (s.answerDeferred f c) = (t, .deferred)) : s.manage c n f act = t := by
  rw [State.manage_accepted s c n f act h, ha]
  rfl

end Sys2Proof.Machine
end

