-- ==== Sys2Proof/Laws/Notices.lean ====
section
/-! SUPPORT. What raising a notice leaves alone in the Notice Unit. -/

namespace Sys2Proof.Machine

@[simp] theorem NoticeUnit.raise_mask (u : NoticeUnit) (n : Notice) : (u.raise n).mask = u.mask := by
  unfold NoticeUnit.raise; split_ifs <;> rfl

@[simp] theorem NoticeUnit.raise_run (u : NoticeUnit) (n : Notice) : (u.raise n).run = u.run := by
  unfold NoticeUnit.raise; split_ifs <;> rfl

@[simp] theorem State.raise_nu (s : State) (n : Notice) : (s.raise n).nu = s.nu.raise n := rfl

/-- A masked kind is discarded (R151, step 1). -/
theorem NoticeUnit.raise_masked (u : NoticeUnit) (n : Notice) (h : u.enabled n = false) : u.raise n = u := by
  simp [NoticeUnit.raise, h]

/-- A notice of an identity in the queue is merged into its record (R151, step 2). -/
theorem NoticeUnit.raise_merged (u : NoticeUnit) (n : Notice) (h : u.enabled n = true)
    (hm : ∃ r ∈ u.queue, r.notice.sameIdentity n = true) :
    u.raise n = { u with queue := u.queue.map fun r => if r.notice.sameIdentity n then r.merge n else r } := by
  have : (u.queue.any fun r => r.notice.sameIdentity n) = true := by simpa using hm
  simp [NoticeUnit.raise, h, this]

/-- A new identity is appended while there is room, and counted lost otherwise (R151, steps 3 and 4). -/
theorem NoticeUnit.raise_new (u : NoticeUnit) (n : Notice) (h : u.enabled n = true)
    (hm : ∀ r ∈ u.queue, r.notice.sameIdentity n = false) :
    u.raise n =
      if u.queue.length < 8 then { u with queue := u.queue ++ [{ notice := n, count := 1 }] }
      else { u with lost := min 65535 (u.lost + 1) } := by
  have : (u.queue.any fun r => r.notice.sameIdentity n) = false := by simpa using hm
  simp only [NoticeUnit.raise, h, this]
  rfl

end Sys2Proof.Machine
end

