-- ==== Sys2Proof/Laws/Modes.lean ====
section
/-! SUPPORT. What a change of the device mode does to the Mode Controller and to a port, and what admission leaves alone. -/

namespace Sys2Proof.Machine

/-- A mode change with its MODE_CHANGED notice, from a known mode (R143). -/
theorem State.changeMode_from {s : State} {old new : Mode} {c : ModeCause} (h : s.mc.mode = old) :
    s.changeMode new c = { s with mc := { s.mc with mode := new }, nu := s.nu.raise (.modeChanged new old c) } := by
  subst h
  rfl

/-- What a port keeps when the mode leaves STOP (R91, R102). -/
theorem Port.modeLeavesStop_keeps (q : Port) :
    q.modeLeavesStop.slots = q.slots ∧ q.modeLeavesStop.lock = q.lock ∧ q.modeLeavesStop.config = q.config ∧
    q.modeLeavesStop.counters = q.counters ∧ q.modeLeavesStop.freeOrder = q.freeOrder ∧ q.modeLeavesStop.turn = q.turn ∧
    q.modeLeavesStop.holdRequest = q.holdRequest ∧ q.modeLeavesStop.pace = q.pace ∧ q.modeLeavesStop.pulse = q.pulse := by
  unfold Port.modeLeavesStop
  split <;> simp

/-- What binding and refusal leave alone (R31, R36, R37). -/
theorem State.bindOrRefuse_keeps (s : State) (f : DataFrame) :
    (s.bindOrRefuse f).mc.mode = s.mc.mode ∧ (s.bindOrRefuse f).mc.wakeOnRequest = s.mc.wakeOnRequest ∧
    (s.bindOrRefuse f).nu = s.nu ∧ (s.bindOrRefuse f).engineEnable = s.engineEnable ∧ (s.bindOrRefuse f).ports = s.ports := by
  unfold State.bindOrRefuse
  split <;> exact ⟨rfl, rfl, rfl, rfl, rfl⟩

/-- What the Mode Controller's part of link reset changes (R142). -/
structure LinkResetModeFrame (s t : State) : Prop where
  mask : t.nu.mask = s.nu.mask
  run : t.nu.run = s.nu.run
  mc : t.mc = { s.mc with mode := .run, stopOnQuiet := false }
  portStop : s.mc.mode = .stop → ∀ p, t.port p = (s.port p).modeLeavesStop
  port : s.mc.mode ≠ .stop → t.ports = s.ports
  rest : { t with nu := s.nu, ports := s.ports, mc := s.mc } = s

theorem State.linkResetMode_frame (s : State) : LinkResetModeFrame s s.linkResetMode := by
  unfold State.linkResetMode
  cases hm : s.mc.mode <;> simp only
  case run => exact ⟨rfl, rfl, by simp [← hm], by simp [hm], fun _ => rfl, rfl⟩
  case stop =>
    exact ⟨NoticeUnit.raise_mask _ _, NoticeUnit.raise_run _ _, rfl, fun _ p => by simp [State.leaveStop]; rfl,
      fun h => absurd hm h, rfl⟩
  all_goals exact ⟨NoticeUnit.raise_mask _ _, NoticeUnit.raise_run _ _, rfl, fun h => by simp [hm] at h, fun _ => rfl, rfl⟩

end Sys2Proof.Machine
end

