-- ==== Sys2Proof/Laws/Operands.lean ====
section
/-! SUPPORT. What the operand forms read: the index field, the zero bits of a word, a search over indexes, window records, port records
and descriptors. -/

namespace Sys2Proof.Machine

/-- An index field that names no record (12.3). -/
theorem indexBelow_none {n : Nat} {w : Word} (h : n ≤ (field w 0 8).toNat) : indexBelow n w = none := by
  simp [indexBelow]
  omega

/-- An index field that names record i (12.3). -/
theorem indexBelow_some {n : Nat} {w : Word} (i : Fin n) (h : (field w 0 8).toNat = i.val) : indexBelow n w = some i := by
  have : (field w 0 8).toNat < n := by omega
  simp [indexBelow, h]

/-- The bits from j up are zero exactly when the word lies below 2^j (R190). -/
theorem zeroUnder_iff {w : Word} (j : Nat) (m : Word) (hm : m = BitVec.allOnes 32 <<< j) :
    zeroUnder w m = true ↔ w.toNat < 2 ^ j := by
  subst hm
  simp only [zeroUnder, beq_iff_eq]
  constructor
  · intro h
    have hz : w.toNat / 2 ^ j = 0 := by
      apply Nat.eq_of_testBit_eq
      intro i
      simp only [Nat.testBit_div_two_pow, Nat.zero_testBit]
      by_cases hi : i + j < 32
      · have hb := congrArg (fun x => BitVec.getLsbD x (i + j)) h
        simp only [BitVec.getLsbD_and, BitVec.getLsbD_shiftLeft, BitVec.getLsbD_allOnes, hi, Nat.add_sub_cancel,
          show ¬ i + j < j by omega, show i < 32 by omega, decide_true, decide_false, Bool.not_false, Bool.and_true] at hb
        exact hb.trans BitVec.getLsbD_zero
      · exact BitVec.getLsbD_of_ge w (i + j) (by omega)
    rcases Nat.div_eq_zero_iff.mp hz with h | h
    · exact absurd h (Nat.two_pow_pos j).ne'
    · exact h
  · intro h
    apply BitVec.eq_of_getLsbD_eq
    intro i hi
    have hz : j ≤ i → w.getLsbD i = false := fun hj =>
      Nat.testBit_lt_two_pow (lt_of_lt_of_le h (Nat.pow_le_pow_right (by omega) hj))
    simp only [BitVec.getLsbD_and, BitVec.getLsbD_shiftLeft, BitVec.getLsbD_allOnes]
    by_cases hj : i < j
    · simp only [hj, decide_true, Bool.not_true, Bool.and_false, Bool.false_and]
      exact BitVec.getLsbD_zero.symm
    · rw [hz (by omega), Bool.false_and]
      exact BitVec.getLsbD_zero.symm

/-- Bits 31 to 8 of an operand word are zero (12.3). -/
theorem indexOnly_iff {w : Word} : indexOnly w = true ↔ w.toNat < 256 := zeroUnder_iff 8 _ (by decide)

/-- A word that holds nothing but an index. -/
theorem index_word {n : Nat} (hn : n ≤ 256) {w : Word} (i : Fin n) (h : w = BitVec.ofNat 32 i.val) :
    indexBelow n w = some i ∧ indexOnly w = true := by
  have hi := i.isLt
  have h1 : (field w 0 8).toNat = i.val := by
    subst h
    simp [field, BitVec.extractLsb'_toNat]
    omega
  refine ⟨indexBelow_some i h1, indexOnly_iff.2 ?_⟩
  subst h
  simp
  omega

/-- A search over all indexes finds the one index for which the test holds. -/
theorem find_one {n : Nat} (i : Fin n) (f : Fin n → Bool) (h : f i = true) (hu : ∀ j, f j = true → j = i) :
    (List.finRange n).find? f = some i := by
  rw [List.find?_eq_some_iff_append]
  obtain ⟨as, bs, hab⟩ := List.append_of_mem (List.mem_finRange i)
  refine ⟨h, as, bs, hab, fun j hj => ?_⟩
  by_contra hcon
  have hji := hu j (by simpa using hcon)
  subst hji
  have hnd := List.nodup_finRange n
  rw [hab, List.nodup_append] at hnd
  exact hnd.2.2 j hj j (by simp) rfl

/-- The overlap check fails when some other window reserves a range that meets the contents (R10). -/
theorem State.overlaps_iff (s : State) (c : Contents) (skip : Option WindowIdx) :
    s.overlaps c skip = true ↔ ∃ j, skip ≠ some j ∧ ∃ r ∈ (s.window j).reserved, rangesMeet c.range r = true := by
  simp [State.overlaps]

/-- The overlap check passes when no other window does (R10). -/
theorem State.overlaps_false (s : State) (c : Contents) (skip : Option WindowIdx) :
    s.overlaps c skip = false ↔ ∀ j, skip ≠ some j → ∀ r ∈ (s.window j).reserved, rangesMeet c.range r = false := by
  simp only [State.overlaps, List.any_eq_false, List.mem_finRange, true_implies, Bool.and_eq_true, bne_iff_ne, List.any_eq_true,
    not_and, not_exists, Bool.not_eq_true, ne_eq]

/-- Some tracking entry is free (R51). -/
theorem State.freeIndex_isSome (s : State) : s.freeIndex?.isSome = true ↔ ∃ i, ∀ x ∈ s.tracking, x.index ≠ i := by
  simp [State.freeIndex?, List.find?_isSome]

/-- CHANNEL LOAD finds a DISABLED port (R114). -/
theorem State.portOffFor_iff (s : State) (d : Descriptor) :
    s.portOffFor d = true ↔ ∃ p, d.names p = true ∧ (s.port p).state = .disabled := by
  simp [State.portOffFor]

/-! ## Records (R3, R94, R113) -/

/-- A valid contents (R3). -/
theorem Contents.valid_iff (c : Contents) : c.valid = true ↔
    c.logicalBase.toNat % 0x1000 = 0 ∧ c.logicalBase.toNat + c.size * 0x1000 ≤ 0x100000000 ∧ 1 ≤ c.size ∧ c.size ≤ 65536 ∧
      c.physicalBase.toNat % 0x1000 = 0 ∧ c.physicalBase.toNat + c.size * 0x1000 ≤ 0x10000000 := by
  simp [Contents.valid, Contents.past, Config.granule, Config.logicalSpace, Config.physicalSpace, and_assoc]

/-- The physical base in a window record is its field times 1000H (12.4). -/
theorem granules_toNat (x : BitVec 16) : (x.setWidth 28 <<< 12 : BitVec 28).toNat = x.toNat * 0x1000 := by
  have := x.isLt
  simp [BitVec.toNat_shiftLeft, BitVec.toNat_setWidth, Nat.shiftLeft_eq]
  omega

/-- The logical base in a window record is a multiple of 1000H (12.4). -/
theorem base_aligned (w : Word) : (w &&& 0xFFFFF000).toNat % 0x1000 = 0 := by
  have h : (w &&& 0xFFFFF000).toNat % 2 ^ 12 = ((w &&& 0xFFFFF000).setWidth 12).toNat := (BitVec.toNat_setWidth ..).symm
  have low : BitVec.setWidth 12 (0xFFFFF000 : Word) = 0#12 := by decide
  rw [BitVec.setWidth_and, low] at h
  simpa using h

/-- What a window record gives: the contents of its fields, when the bits marked zero are zero and it is valid (R3, R190). -/
theorem windowRecord_iff (w0 w1 w2 w3 : Word) (c : Contents) : windowRecord w0 w1 w2 w3 = some c ↔
    windowRecordZeros w0 w2 w3 = true ∧ c = windowRecordContents w0 w1 w2 ∧ c.valid = true := by
  unfold windowRecord
  by_cases h : (windowRecordZeros w0 w2 w3 && (windowRecordContents w0 w1 w2).valid) = true
  · simp only [h, if_true, Option.some.injEq]
    rw [Bool.and_eq_true] at h
    exact ⟨fun e => e ▸ ⟨h.1, rfl, h.2⟩, fun e => e.2.1.symm⟩
  · simp only [h]
    rw [Bool.and_eq_true] at h
    exact ⟨fun e => (by cases e), fun e => absurd ⟨e.1, e.2.1 ▸ e.2.2⟩ h⟩

/-- A step code names a step (12.4). -/
theorem stepCode_iff (b : BitVec 2) (st : Step) : stepCode b = some st ↔ b.toNat = st.code := by
  cases st <;> revert b <;> decide

/-- What three words give as a descriptor (R113, R190). -/
theorem descriptorWords_iff (x y z : Word) (d : Descriptor) : descriptorWords x y z = some d ↔
    stepCode (field x 30 2) = some d.srcStep ∧ stepCode (field y 30 2) = some d.dstStep ∧ pacingField z = some d.pacing ∧
      d.srcPort = portField x 28 ∧ d.srcAddr = field x 0 28 ∧ d.dstPort = portField y 28 ∧ d.dstAddr = field y 0 28 ∧
      d.count = (field z 0 16).toNat + 1 ∧ d.notify = bit z 24 ∧ zeroUnder z 0xFEE00000 = true ∧ d.valid = true := by
  unfold descriptorWords
  split
  · rename_i a b c h1 h2 h3
    rw [h1, h2, h3]
    constructor
    · intro h
      dsimp only at h
      split at h
      · rename_i hh
        cases h
        rw [Bool.and_eq_true] at hh
        exact ⟨rfl, rfl, rfl, rfl, rfl, rfl, rfl, rfl, rfl, hh⟩
      · cases h
    · rintro ⟨g1, g2, g3, g4, g5, g6, g7, g8, g9, g10⟩
      cases d
      simp only [Option.some.injEq] at *
      subst g1 g2 g3 g4 g5 g6 g7 g8 g9
      exact if_pos (Bool.and_eq_true _ _ ▸ g10)
  · rename_i hn
    constructor
    · intro h
      cases h
    · rintro ⟨g1, g2, g3, -⟩
      exact absurd g3 (hn _ _ _ g1 g2)

end Sys2Proof.Machine
end

