-- ==== Sys2Proof/Laws/Slots.lean ====
section
/-! SUPPORT. What a completion and a timeout of a held slot do, and the end of a tracking entry that holds a slot. -/

namespace Sys2Proof.Machine

/-- An event while RESETN is deasserted. -/
theorem State.unlessReset_off {s : State} (h : s.resetn = false) (f : State → State) : s.unlessReset f = f s := by
  simp [State.unlessReset, h]

/-- Changing one port is replacing it. -/
theorem State.updPort_eq {s : State} {p : PortId} {f : Port → Port} {q : Port} (h : f (s.port p) = q) :
    s.updPort p f = { s with ports := s.ports.set p q } := by
  rw [← h]
  rfl

/-- A record that has just been stored is read back. -/
theorem set_get {α : Type} {n : Nat} (v : Vector α n) (p : Fin n) (x : α) (h : p.val < n) : (v.set p.val x h)[p] = x := by simp

/-- A completion is handed to the holder of its ISSUED slot (R76). -/
theorem exec_completion_held {s : State} {p : PortId} {k : SlotId} {h : Holder} (H : HeldSlot s p k h) (st : CompletionStatus)
    (data : List Word) : exec (.completion p k st data) s = .next (s.deliver p k h st data).followUp := by
  obtain ⟨cmd, t, hs⟩ := H.slot
  simp [exec, execCompletion, State.unlessReset, H.listening, State.complete, H.notResetting, hs]

/-- A timeout is counted, its slot lingers, its holder is told, and the stall test is made (R79). -/
theorem exec_timeout_held {s : State} {p : PortId} {k : SlotId} {h : Holder} (H : HeldSlot s p k h)
    (hx : ((s.port p).slot k).expired = true) :
    exec (.issueTimerExpiry p k) s = .next (((s.slotTimedOut p k).timeoutHolder p h).stallTest p).followUp := by
  obtain ⟨cmd, t, hs⟩ := H.slot
  have ht : t = 0 := by simpa [hs, Slot.expired] using hx
  subst ht
  simp only [exec, execIssueTimerExpiry, hs]
  rfl

/-- A completion is handed to the tracking entry that holds its slot (R57 to R60). -/
theorem exec_completion_entry {s : State} {p : PortId} {k : SlotId} {e : TrackEntry} (H : EntryInSlot s p k e)
    (st : CompletionStatus) (data : List Word) :
    exec (.completion p k st data) s = .next (s.completeEntry p e k st data).followUp := by
  rw [exec_completion_held H.held]
  simp [State.deliver, H.entry]

/-- The report of the Tracking Table and the install at the end of a drain touch different fields (R71). -/
theorem State.installPending_reportTracking (s : State) : s.installPending.reportTracking = s.reportTracking.installPending := by
  have h : s.reportTracking.installDue = s.installDue := rfl
  unfold State.installPending
  rw [h]
  rcases s.installDue with _ | ⟨d, _ | _⟩ <;> rfl

/-- The end of an entry that holds a slot: its answer, its slot, the entry, and then the install and the dispatch that it allows
(R71). -/
theorem State.endEntry_held (s t : State) (p : PortId) (k : SlotId) (e : TrackEntry) (x : EntryEnd) (H : EntryInSlot s p k e)
    (hp : (t.port p).slot k = (s.port p).slot k) :
    t.endEntry e x = (((t.answerEntry e x).slotFreed p k).entryGone p e).installPending.dispatchAll := by
  obtain ⟨cmd, time, hs⟩ := H.held.slot
  have h1 : ((t.answerEntry e x).port p).slot k = (t.port p).slot k := by
    unfold State.answerEntry
    split
    · split <;> rfl
    · rfl
  have h2 : ((t.answerEntry e x).ports[p].slot k).isIssued = true := by
    show (((t.answerEntry e x).port p).slot k).isIssued = true
    rw [h1, hp, hs]
    rfl
  simp only [State.endEntry, State.installPending_reportTracking]
  refine congrArg (fun s => State.dispatchAll (State.installPending s)) ?_
  simp only [State.dropEntry, H.port, State.updPort, Port.releaseFrom, H.issued, h2, if_true, Port.freeSlot, Port.unlock]
  simp only [State.slotFreed, State.entryGone, State.setWindow, State.reportTracking, Window.release, State.window, State.port]
  simp
  split <;> simp_all

/-- A FAULT answer is built from the window and the Notice Unit alone (R69, R70). -/
theorem State.answerEntry_fault (t s : State) (e : TrackEntry) (r : Reason) (hw : t.windows = s.windows) (hn : t.nu = s.nu) :
    t.answerEntry e (.fault r) = t.faultAnswered s e r := by
  simp only [State.answerEntry, State.faultAnswered]
  split
  · simp [State.raise, State.postedFault, State.faultNotice, State.window, hw, hn]
  · rcases hp : e.phase with _ | _ | _ <;>
      simp [State.respond, State.responded, TrackEntry.response, TrackEntry.faultResponse, TrackEntry.inWriteHalf, hp]

/-- An entry that holds a slot ends in a fault (R59 to R61, R69 to R71). -/
theorem State.endEntry_fault {s t : State} {p : PortId} {k : SlotId} {e : TrackEntry} (H : EntryInSlot s p k e)
    (hp : (t.port p).slot k = (s.port p).slot k) (hw : t.windows = s.windows) (hn : t.nu = s.nu) (r : Reason) :
    t.endEntry e (.fault r) = (((t.slotFreed p k).entryGone p e).faultAnswered s e r).installPending.dispatchAll := by
  rw [State.endEntry_held s t p k e _ H hp, State.answerEntry_fault t s e r hw hn]
  simp only [State.faultAnswered]
  split <;> rfl

/-- An entry that holds a slot and is not posted ends OK (R57, R58, R70, R71). -/
theorem State.endEntry_ok {s : State} {p : PortId} {k : SlotId} {e : TrackEntry} (H : EntryInSlot s p k e) (data : List Word)
    (swapped : Option Bool) (hp : e.posted = false) :
    s.endEntry e (.ok data swapped) =
      (((s.slotFreed p k).entryGone p e).responded
        { okResponse e.requester e.tag .data data with swapped := swapped }).installPending.dispatchAll := by
  rw [State.endEntry_held s s p k e _ H rfl]
  simp only [State.answerEntry, hp]
  rfl

/-- All four slots of a port linger (R65). -/
theorem Port.stalled_iff (q : Port) : q.stalled = true ↔ ∀ j, q.slot j = .lingering := by
  simp only [Port.stalled, Bool.and_eq_true, beq_iff_eq]
  constructor
  · rintro ⟨⟨⟨a, b⟩, c⟩, d⟩ j
    fin_cases j <;> assumption
  · intro h
    exact ⟨⟨⟨h 0, h 1⟩, h 2⟩, h 3⟩

/-- What a stall test changes: the Notice Unit's queue and lost count, and the stall report of its port (R65). -/
structure StallFrame (s t : State) : Prop where
  mask : t.nu.mask = s.nu.mask
  run : t.nu.run = s.nu.run
  port : ∀ q, ∃ b, t.port q = { s.port q with stallReport := b }
  rest : { t with nu := s.nu, ports := s.ports } = s

theorem State.stallTest_frame (s : State) (p : PortId) : StallFrame s (s.stallTest p) := by
  unfold State.stallTest
  split
  · refine ⟨NoticeUnit.raise_mask _ _, NoticeUnit.raise_run _ _, fun q => ?_, rfl⟩
    by_cases h : p = q
    · subst h
      exact ⟨true, by simp [State.port, State.updPort, State.raise]⟩
    · have hv : ¬ p.val = q.val := fun hh => h (Fin.ext hh)
      exact ⟨(s.port q).stallReport, by simp [State.port, State.updPort, State.raise, hv]⟩
  · exact ⟨rfl, rfl, fun q => ⟨_, rfl⟩, rfl⟩

end Sys2Proof.Machine
end

