-- ==== Sys2Proof/Tests/Slice0.lean ====
section
/-! SUPPORT. Tests of the definitions, and for every statement with hypotheses a theorem with concrete values that meet them, clause by
clause. The statements are in Certificates/Slice0/Obligations.lean; a theorem test_meets_<Name> belongs to the statement <Name>. -/

namespace Sys2Proof.Tests

open Sys2Proof Sys2Proof.Machine

-- One test after the other: many kernel evaluations at once start more threads than the memory limit of the check allows.
set_option Elab.async false

/-! ## Small states and frames -/

/-- A management frame of requester 0 with tag 5. -/
def frame (operands : List Word) : MgmtFrame where
  requester := 0
  tag := 5
  malformed := false
  operands := operands

/-- A READ request of requester 0 with tag 6. -/
def readFrame (address : Word) (length : Byte) : DataFrame where
  requester := 0
  tag := 6
  malformed := false
  kindCode := 1
  length := length
  address := address
  payload := []

/-- A window contents of one granule at logical 10000H and physical 1000H on segment S0, with every right. -/
def contents : Contents where
  logicalBase := 0x10000
  size := 1
  port := 0
  physicalBase := 0x1000
  mayRead := true
  mayWrite := true
  maySwap := true
  requesters := 0xFF
  posted := false
  strict := false

/-- The window record of these contents for index 0. -/
def record : List Word := [0x10000, 0x10000, 0x7FF, 0]

/-- The part in RUN with an UP link and full credit. -/
def ready : State :=
  { State.reset with
    mc := { ModeController.initial with mode := .run }
    boot := { BootReader.initial with phase := .finished, result := .absent }
    li := { LinkInterface.initial with up := true, silence := some 64, dataCredit := 24, mgmtCredit := 2 } }

/-- The same with window 0 LIVE. -/
def opened : State :=
  { ready with
    windows := ready.windows.set 0 { state := .live, contents := contents, useCount := 0, hitCount := 0, pending := none } }

/-- A tracking entry of window 0. -/
def entry (body : ReqBody) (phase : Option SwapPhase) (posted : Bool) (state : EntryState) (retries : Nat) : TrackEntry where
  index := 0
  requester := 1
  tag := 7
  body := body
  window := 0
  port := 0
  physAddr := 0x1000
  length := 1
  posted := posted
  state := state
  phase := phase
  retries := retries

/-- A queue entry of window 0. -/
def queued : QueueEntry where
  requester := 1
  tag := 8
  body := .read
  window := 0
  address := 0x10000
  length := 1

/-- The part with window 0 in use by one tracking entry. -/
def tracked (e : TrackEntry) : State :=
  { opened with
    windows := opened.windows.set 0 { opened.window 0 with useCount := 1 }
    tags := if e.posted then [] else [(1, 7)]
    tracking := [e]
    mc := { opened.mc with trackingEmpty := false } }

/-- The state with slot 0 of port p ISSUED by a holder, its issue timer run out. -/
def holding (s : State) (p : PortId) (h : Holder) (cmd : AccessCommand) : State :=
  s.updPort p fun q => { q with slots := q.slots.set 0 (.issued h cmd 0), freeOrder := [1, 2, 3] }

/-- An entry that holds slot 0 of P0. -/
def issuedState (e : TrackEntry) : State := holding (tracked e) 0 (.tracking 0) (.read 0x1000 1)

/-- The state with another mode. -/
def inMode (s : State) (m : Mode) : State := { s with mc := { s.mc with mode := m } }

/-- The state with port p changed to a state and a hold request level. -/
def portIn (s : State) (p : PortId) (st : PortState) (hold : Bool) : State :=
  s.updPort p fun q => { q with state := st, holdRequest := hold }

/-- A descriptor of two words from S0 to S1. -/
def descriptor (pacing : Pacing) : Descriptor where
  srcPort := 0
  srcAddr := 0x100
  srcStep := .up
  dstPort := 1
  dstAddr := 0x200
  dstStep := .hold
  count := 2
  pacing := pacing
  notify := true

/-- A channel with this descriptor. -/
def channelWith (st : ChannelState) (pacing : Pacing) (u : Option CopyUnit) (remaining : Nat) : Channel where
  state := st
  current := some { desc := descriptor pacing, remaining := remaining, src := 0x100, dst := 0x200 }
  pending := none
  unit := u
  permit := false
  lastFault := none

/-- The state with channel 0 replaced. -/
def withChannel (s : State) (ch : Channel) : State := s.setChannel 0 ch

/-- The state with a window operation deferred on window 0, which drains, its drain timer run out. -/
def draining (change : PendingChange) (useCount : Nat) : State :=
  { ready with
    windows := ready.windows.set 0
      { state := .draining, contents := contents, useCount := useCount, hitCount := 0, pending := some ⟨change, 1⟩ }
    deferred := some { index := 0, requester := 0, tag := 5, timer := 0 } }

/-- The state with a frame in transmission. -/
def sending (f : SentFrame) (effective : Bool) : State :=
  { ready with li := { ready.li with transmission := some ⟨f, effective, 0⟩ } }

/-- The conditions of an accepted command as one decidable condition. -/
theorem accepted_of {s : State} {f : MgmtFrame} {n : Nat}
    (h : s.resetn = false ∧ 0 < s.li.mgmtCredit ∧ f.malformed = false ∧ s.managers.getLsbD f.requester.val = true ∧
      f.pair ∉ s.tags ∧ f.operands.length = n ∧ ∀ e ∈ s.mgmtQueue, (e.requester, e.tag) ≠ f.pair) : CommandAccepted s f n :=
  ⟨h.1, h.2.1, h.2.2.1, h.2.2.2.1, h.2.2.2.2.1, h.2.2.2.2.2.1, h.2.2.2.2.2.2⟩

/-- A command of requester 0 with tag 5 is accepted by a part that holds only other pairs. -/
theorem accepts (s : State) (operands : List Word)
    (h : s.resetn = false ∧ 0 < s.li.mgmtCredit ∧ s.managers.getLsbD 0 = true ∧ ((0, 5) : Pair) ∉ s.tags ∧
      ∀ e ∈ s.mgmtQueue, (e.requester, e.tag) ≠ ((0, 5) : Pair)) : CommandAccepted s (frame operands) operands.length :=
  ⟨h.1, h.2.1, rfl, h.2.2.1, h.2.2.2.1, rfl, h.2.2.2.2⟩

/-! ## Well-formed commands -/

theorem test_wellFormed_frames_of_the_greatest_length :
    WellFormed (.dataRequest { readFrame 0 1 with kindCode := 2, payload := List.replicate 60 0 }) = true ∧
    WellFormed (.windowLoad (frame (List.replicate 61 0))) = true ∧
    WellFormed (.unknownCommand 0x15 (frame [])) = true ∧ WellFormed (.completion 0 0 .error []) = true ∧
    WellFormed (.dispatch) = true := by decide

theorem test_illFormed_data_request_of_61_words :
    WellFormed (.dataRequest { readFrame 0 1 with payload := List.replicate 61 0 }) = false := by decide

theorem test_illFormed_command_of_62_words : WellFormed (.windowLoad (frame (List.replicate 62 0))) = false := by decide

theorem test_illFormed_unknown_command_with_a_command_code : WellFormed (.unknownCommand 0x10 (frame [])) = false := by decide

theorem test_illFormed_unknown_command_of_62_words :
    WellFormed (.unknownCommand 0x15 (frame (List.replicate 62 0))) = false := by decide

theorem test_illFormed_completion_with_data_and_error : WellFormed (.completion 0 0 .error [0]) = false := by decide

theorem test_illFormed_completion_with_data_and_retry : WellFormed (.completion 0 0 .retry [0]) = false := by decide

/-! ## Frames as bytes -/

/-- The CRC of R171 over the nine bytes 31H to 39H. -/
theorem test_crc_of_nine_bytes : crc [0x31, 0x32, 0x33, 0x34, 0x35, 0x36, 0x37, 0x38, 0x39] = 0x29B1 := by decide +kernel

theorem test_received_idle_and_link_reset :
    receivedFrame (sealed [2, 4]) = .idle false ∧ receivedFrame (sealed [2, 5]) = .idle true ∧
    receivedFrame (sealed [3, 4]) = .linkReset false ∧ receivedFrame [2, 4, 0, 0] = .frameCheckFailed := by decide +kernel

/-- A READ of 2 words at 10004H by requester 3 with tag 9, and WINDOW FIND of 10004H by requester 0 with tag 5. -/
theorem test_received_requests :
    receivedFrame (sealed [1, 12, 0x18, 9, 1, 2, 0, 1, 0, 4]) =
      .dataRequest
        { requester := 3, tag := 9, malformed := false, kindCode := 1, length := 2, address := 0x10004, payload := [] } ∧
    receivedFrame (sealed [1, 12, 0x40, 5, 0x14, 0, 0, 1, 0, 4]) = .windowFind (frame [0x10004]) ∧
    receivedFrame (sealed [1, 8, 0x40, 5, 0x15, 0]) = .unknownCommand 0x15 (frame []) ∧
    receivedFrame (sealed [1, 8, 0x80, 5, 0x15, 0]) = .frameCheckFailed := by decide +kernel

theorem test_sent_response_bytes :
    (SentFrame.response (okResponse 3 9 .data [0x01020304])).body =
      [0x81, 14, 0x18, 9, 0, 0, 0, 1, 1, 2, 3, 4] := by decide

/-! ## Steps and resets -/

theorem test_meets_StepRunsTheFrontCommand : ({ State.reset with pending := [.fill] } : State).pending = .fill :: [] := rfl

theorem test_meets_StepOnAnEmptyQueue :
    State.reset.pending = [] ∧ State.reset.ownStep = some .bootReadIssue ∧
      ({ State.reset with resetn := true } : State).ownStep = none := by decide +kernel

/-- A boot read and a take of the transmitter are due; in RUN with an UP link nothing is. -/
theorem test_due_steps :
    DueStep State.reset .bootReadIssue ∧ ¬ DueStep ready .bootReadIssue ∧
    DueStep { ready with li := { ready.li with creditPending := true } } .takeCredit ∧
    DueStep (sending .credit true) .creditSent ∧ ¬ DueStep (sending .credit true) .takeCredit ∧
    DueStep (draining .close 0) .installClose ∧ DueStep (draining .close 1) .drainTimerExpiry := by
  have booting : State.reset.arbiterChoice 0 = some .boot := by decide +kernel
  have running : ready.arbiterChoice 0 ≠ some .boot := by decide +kernel
  have drained : ∀ n, ((draining .close n).window 0).state = .draining ∧ ((draining .close n).window 0).useCount = n ∧
      ((draining .close n).window 0).pending = some ⟨.close, 1⟩ := by simp [draining, State.window]
  exact ⟨booting, running, ⟨⟨rfl, rfl, rfl⟩, rfl⟩, ⟨true, rfl⟩, fun h => (by cases h.1.2.2), ⟨_, 1, rfl, drained 0⟩,
    ⟨_, rfl, rfl, (drained 1).1⟩⟩

/-- 1 µs takes 1 µs off the silence timer and off an issue timer, and 50 bytes off a frame in transmission. -/
theorem test_tick :
    let s : State :=
      { ready with
        li := { ready.li with transmission := some ⟨.credit, true, 60⟩ }
        ports := ready.ports.set 1 { ready.port 1 with slots := #v[.issued .upkeep (.upkeep 0) 16, .free, .free, .lingering] } }
    s.tick.li.silence = some 63 ∧ s.tick.li.transmission = some ⟨.credit, true, 10⟩ ∧
      (s.tick.port 1).slots = #v[.issued .upkeep (.upkeep 0) 15, .free, .free, .lingering] := by decide +kernel

theorem test_meets_PowerOnAndPinReset : State.reset.resetn = false ∧ ({ State.reset with resetn := true } : State).resetn = true :=
  ⟨rfl, rfl⟩

/-! ## The Request Link -/

theorem test_meets_LinkComesUpAndGoesDown :
    State.reset.resetn = false ∧ ready.resetn = false ∧ ready.li.up = true ∧ ready.li.silence ≠ some 0 ∧
    ({ ready.li with silence := some 0 } : LinkInterface).silence = some 0 ∧ State.reset.mc.mode = .booting ∧
    State.reset.li.up = false := by decide +kernel

theorem test_meets_LinkResetTaken :
    ready.resetn = false ∧ ready.mc.mode ≠ .booting ∧ ready.mc.mode ≠ .stop ∧ ready.li.up = true ∧
    (∀ p, ∃ k, (ready.port p).slot k = .free) ∧
    ((inMode ready .stop).resetn = false ∧ (inMode ready .stop).mc.mode ≠ .booting ∧ (inMode ready .stop).mc.mode = .stop) := by
  decide +kernel

/-- A notice that waits. -/
def notice : NoticeRecord := ⟨.linkRestored, 1⟩

theorem test_meets_TransmitterTakesInOrder :
    (ready.resetn = false ∧ ready.li.up = true ∧ ready.li.transmission = none) ∧
    ({ ready.li with creditPending := true } : LinkInterface).creditPending = true ∧
    (ready.li.creditPending = false ∧ ready.mc.mode ≠ .booting ∧
      ({ ready.nu with queue := [notice] } : NoticeUnit).queue = notice :: [] ∧ ready.li.responses = []) ∧
    ({ ready.nu with queue := [notice], run := 8 } : NoticeUnit).run = 8 ∧
    (({ ready.li with responses := [okResponse 0 5 .data []] } : LinkInterface).responses = okResponse 0 5 .data [] :: [] ∧
      ready.nu.queue = []) ∧
    ({ ready.nu with queue := [notice], run := 7 } : NoticeUnit).run ≠ 8 := by decide +kernel

theorem test_meets_EndsOfTransmission :
    (sending (.response (okResponse 0 5 .data [])) true).li.transmission = some ⟨.response (okResponse 0 5 .data []), true, 0⟩ ∧
    (sending (.response (okResponse 0 5 .management [])) true).li.transmission =
      some ⟨.response (okResponse 0 5 .management []), true, 0⟩ ∧
    (okResponse 0 5 .data []).pool = .data ∧ (okResponse 0 5 .management []).pool = .management ∧
    (sending (.response (okResponse 0 5 .data [])) false).li.transmission =
      some ⟨.response (okResponse 0 5 .data []), false, 0⟩ ∧
    (sending .credit true).li.transmission = some ⟨.credit, true, 0⟩ ∧
    (sending .credit false).li.transmission = some ⟨.credit, false, 0⟩ ∧
    (sending (.notice notice 0) true).li.transmission = some ⟨.notice notice 0, true, 0⟩ := by decide +kernel

theorem test_meets_SentFramesCarryTheirCheck :
    (okResponse 0 5 .data (List.replicate 61 0)).data.length ≤ 61 ∧
      (byteAt (SentFrame.response (okResponse 0 5 .data (List.replicate 61 0))).bytes 1).toNat = 254 ∧
    (⟨.linkRestored, 255⟩ : NoticeRecord).count ≤ 255 ∧
      byteAt (SentFrame.notice ⟨.linkRestored, 255⟩ 65535).bytes 6 = 0xFF := by decide +kernel

/-- The detail words of a POSTED_FAULT and of a COPY_FAULT at the top of their fields. -/
theorem test_detail_words :
    (Notice.postedFault 31 7 63 0xFFFFFFFC .portReset).detailWords = [0x13073F, 0xFFFFFFFC] ∧
    (Notice.copyFault 1 .write .timeout 65536).detailWords = [0x1201, 0x10000] := by decide

/-- The longest WRITE request that the layout of 12.2 holds. -/
def longestWrite : DataFrame := { readFrame 0x10000 60 with kindCode := 2, payload := List.replicate 60 0xABCD1234 }

theorem test_meets_ReceivedFramesAreRead :
    (longestWrite.malformed = false ∧ longestWrite.fits = true) ∧
    receivedFrame (sealed (readFrame 0x10000 2).bytes) = .dataRequest (readFrame 0x10000 2) ∧
    ((frame (List.replicate 61 7)).malformed = false ∧ (frame (List.replicate 61 7)).fits = true) ∧
    receivedFrame (sealed ((frame [7]).bytes 0x15)) = .unknownCommand 0x15 (frame [7]) ∧
    ([0, 0] : List Byte) ≠ checkField (crc [2, 4]) := by decide +kernel

/-- Frames of no kind or pool fail the check; a wrong length byte, a part of a word and a bit marked zero are malformed. -/
theorem test_received_on_every_ground :
    receivedFrame (sealed []) = .frameCheckFailed ∧ receivedFrame (sealed [0x81, 4]) = .frameCheckFailed ∧
    receivedFrame (sealed [1, 5, 0]) = .frameCheckFailed ∧ receivedFrame (sealed [1, 6, 0xC0, 0]) = .frameCheckFailed ∧
    receivedFrame (sealed [1, 9, 0x40, 5, 0x63, 0]) = .identRead { frame [] with malformed := true } ∧
    receivedFrame (sealed [1, 9, 0x40, 5, 0x63, 0, 7]) = .identRead { frame [] with malformed := true } ∧
    receivedFrame (sealed [1, 8, 0x41, 5, 0x63, 0]) = .identRead { frame [] with malformed := true } ∧
    receivedFrame (sealed [1, 8, 0x40, 0x45, 0x63, 0]) = .identRead { frame [] with malformed := true } ∧
    receivedFrame (sealed [1, 8, 0x40, 5, 0x63, 1]) = .identRead { frame [] with malformed := true } ∧
    receivedFrame (sealed [1, 6, 0, 6]) = .dataRequest { readFrame 0 0 with kindCode := 0, malformed := true } := by decide +kernel

/-! ## Credit and intake -/

theorem test_meets_IntakeChecksInOrder :
    (State.reset.resetn = false ∧
      (requestPool (.dataRequest (readFrame 0 1)) = some .data ∧ State.reset.li.credit .data = 0) ∧
      (requestPool (.stop (frame [])) = some .management ∧ State.reset.li.credit .management = 0)) ∧
    managementFrame (.windowFind (frame [0])) = some (frame [0], some 1) ∧ ready.resetn = false ∧ 0 < ready.li.mgmtCredit ∧
    ready.managers.getLsbD (1 : Requester).val = false ∧ ready.managers.getLsbD (0 : Requester).val = true ∧
    (frame [0]).pair ∈ [((0, 5) : Pair)] ∧ (frame [0]).pair ∉ ready.tags ∧ (frame []).operands.length ≠ 1 ∧
    (frame [0, 0]).operands.length ≠ 1 ∧ managementFrame (.unknownCommand 0x15 (frame [])) = some (frame [], none) := by
  decide +kernel

theorem test_meets_IndexRefusals :
    (indexCommand (.windowRead (frame [32])) = some (frame [32], .windowRead, 1, 32) ∧ CommandAccepted ready (frame [32]) 1 ∧
      32 ≤ (field ((frame [32]).word 0) 0 8).toNat) ∧
    (indexCommand (.windowRead (frame [0x11F])) = some (frame [0x11F], .windowRead, 1, 32) ∧
      CommandAccepted ready (frame [0x11F]) 1 ∧ (field ((frame [0x11F]).word 0) 0 8).toNat < 32 ∧
      256 ≤ ((frame [0x11F]).word 0).toNat) ∧
    (indexCommand (.portConfigure (frame [4, 0, 0])) = some (frame [4, 0, 0], .portConfigure, 3, 4) ∧
      CommandAccepted ready (frame [4, 0, 0]) 3 ∧ 4 ≤ (field ((frame [4, 0, 0]).word 0) 0 8).toNat) ∧
    (indexCommand (.trackRead (frame [16])) = some (frame [16], .trackRead, 1, 16) ∧ CommandAccepted ready (frame [16]) 1 ∧
      16 ≤ (field ((frame [16]).word 0) 0 8).toNat) :=
  ⟨⟨rfl, accepts ready _ (by decide +kernel), by decide +kernel⟩, ⟨rfl, accepts ready _ (by decide +kernel), by decide +kernel⟩,
    ⟨rfl, accepts ready _ (by decide +kernel), by decide +kernel⟩, rfl, accepts ready _ (by decide +kernel), by decide +kernel⟩

/-! ## Data requests -/

theorem test_meets_LookupInOrder :
    (∀ i, (ready.window i).containsAddr 0x10000 = false) ∧
    ((opened.window 0).state ≠ .free ∧ (opened.window 0).contents.logicalBase.toNat ≤ (0x10000 : Word).toNat ∧
      (0x10FFC : Word).toNat < (opened.window 0).contents.logicalBase.toNat + (opened.window 0).contents.size * 0x1000 ∧
      (∀ j, (opened.window j).containsAddr (0x10000 : Word).toNat = true → j = 0) ∧
      ∀ j, (opened.window j).containsAddr (0x10FFC : Word).toNat = true → j = 0) ∧
    opened.lookup 0 .read 0x10FFC 1 = .ok 0 ∧ opened.lookup 0 .read 0x10FFC 2 = .error .spans ∧
    opened.lookup 0 .read 0xFFFC 1 = .error .unmapped := by decide +kernel

/-- A part in STOP with wake-on-request set. -/
def asleep : State := { opened with mc := { opened.mc with mode := .stop, wakeOnRequest := true } }

theorem test_meets_FormatCheck :
    ready.resetn = false ∧ 0 < ready.li.dataCredit ∧ ready.mc.mode = .run ∧ (readFrame 0 0).pair ∉ ready.tags ∧
    (readFrame 0 0).body? = none ∧ (readFrame 0 17).body? = none ∧ (readFrame 2 1).body? = none ∧
    (readFrame 0 1).body? = some .read ∧ (readFrame 0 16).body? = some .read ∧
    (asleep.mc.mode = .stop ∧ asleep.mc.wakeOnRequest = true ∧ 0 < asleep.li.dataCredit) := by decide +kernel

theorem test_meets_DataRequestAdmitted :
    (opened.resetn = false ∧ 0 < opened.li.dataCredit ∧ opened.mc.mode = .run ∧ (readFrame 0x10FFC 1).pair ∉ opened.tags ∧
      (readFrame 0x10FFC 1).body? = some .read ∧ opened.lookup 0 .read 0x10FFC 1 = .ok 0) ∧
    (inMode opened .quiescing).mc.mode = .quiescing ∧ (inMode opened .quiet).mc.mode = .quiet ∧
    ((inMode opened .stop).mc.mode = .stop ∧ (inMode opened .stop).mc.wakeOnRequest = false) ∧
    (let t := tracked (entry .read none false .waiting 0)
     t.resetn = false ∧ 0 < t.li.dataCredit ∧ t.mc.mode = .run ∧
       ({ readFrame 0x10000 1 with requester := 1, tag := 7 } : DataFrame).pair ∈ t.tags) ∧
    ((readFrame 0xFFFC 1).pair ∉ opened.tags ∧ (readFrame 0xFFFC 1).body? = some .read ∧
      opened.lookup 0 .read 0xFFFC 1 = .error .unmapped) := by decide +kernel

theorem test_meets_DataRequestWakes :
    ((readFrame 0x10000 1).pair ∈ ({ asleep with tags := [(0, 6)] } : State).tags ∧ (readFrame 0x10000 1).pair ∉ asleep.tags ∧
      (readFrame 0x10000 0).body? = none ∧ (readFrame 0x10000 1).body? = some .read ∧
      asleep.lookup 0 .read 0x10000 1 = .ok 0 ∧ asleep.lookup 0 .read 0xFFFC 1 = .error .unmapped) ∧
    asleep.resetn = false ∧ 0 < asleep.li.dataCredit ∧ asleep.mc.mode = .stop ∧ asleep.mc.wakeOnRequest = true ∧
    ((portIn asleep 0 .stopped false).port 0).state = .stopped ∧
    ((portIn asleep 0 (.settling .stopped) false).port 0).state = .settling .stopped ∧ (asleep.port 1).state ≠ .stopped := by
  decide +kernel

/-- The greatest window. -/
def greatest : Contents := { contents with logicalBase := 0xF0000000, size := 65536, physicalBase := 0 }

theorem test_meets_TranslationStaysInTheSegment :
    greatest.valid = true ∧ greatest.logicalBase.toNat ≤ (0xFFFFFFFF : Word).toNat ∧
    (0xFFFFFFFF : Word).toNat < greatest.logicalBase.toNat + greatest.size * 0x1000 ∧
    (greatest.translate 0xFFFFFFFF).toNat = 0x0FFFFFFF := by decide +kernel

theorem test_meets_DispatchOfTheOldest :
    (1 ≤ queued.length ∧ queued.passes contents false = true) ∧
    (∀ x ∈ opened.requestQueue, opened.dispatchable x = false) ∧
    ({ draining .close 1 with requestQueue := [queued] } : State).dispatchable queued = false ∧
    ({ opened with requestQueue := [queued] } : State).requestQueue = [] ++ queued :: [] ∧
    ({ opened with requestQueue := [queued] } : State).dispatchable queued = true ∧
    (∀ x ∈ opened.tracking, x.index ≠ 0) ∧ (∀ j : TrackIdx, j < 0 → ∃ x ∈ opened.tracking, x.index = j) := by decide +kernel

/-! ## Records at their bounds -/

theorem test_window_record_at_its_bounds :
    (windowRecord 0xFFFFF000 0xFFFF0000 0 0).isSome = true ∧ windowRecord 0xFFFFF000 0 1 0 ≠ none ∧
    windowRecord 0xFFFFF000 1 0 0 = none ∧ windowRecord 0 0xFFFF0001 0 0 = none ∧ windowRecord 0x100 0 0 0 = none ∧
    windowRecord 0 0 0x800 0 = none ∧ (windowRecord 0 0xFFFF 0 0).isSome = true := by decide

theorem test_port_record_at_its_bounds :
    (portRecord 0xFFFF0F70 0x4000008).isSome = true ∧ portRecord 0x10000 0x4010000 = none ∧ portRecord 0x10000 0 = none ∧
    portRecord 0x10000 0x10009 = none ∧ portRecord 0 0x10000 = none ∧ portRecord 0x10080 0x10000 = none := by decide

/-- The example of R113, 65536 words UP from 0FFC0000H, and runs DOWN that end at 0 and below it. -/
theorem test_descriptor_at_its_bounds :
    (descriptorWords 0x0FFC0000 0x80000000 0xFFFF).isSome = true ∧ descriptorWords 0x0FFC0004 0x80000000 0xFFFF = none ∧
    (descriptorWords 0x4003FFFC 0x80000000 0xFFFF).isSome = true ∧ descriptorWords 0x4003FFF8 0x80000000 0xFFFF = none ∧
    descriptorWords 0x80000002 0x80000000 0 = none ∧ descriptorWords 0x80000000 0x80000000 0x30000 = none := by decide

/-! ## Window commands -/

theorem test_meets_WindowLoad :
    (CommandAccepted ready (frame [32, 0x10000, 0x7FF, 0]) 4 ∧ 32 ≤ (field 32 0 8).toNat) ∧
    (CommandAccepted opened (frame record) 4 ∧ (opened.window 0).state ≠ .free) ∧
    ((ready.window 31).state = .free ∧ (field 0x1001F 0 8).toNat = (31 : WindowIdx).val ∧
      windowRecord 0x1001F 0x10000 0x7FF 1 = none) ∧
    (CommandAccepted opened (frame [0x1001F, 0x10000, 0x7FF, 0]) 4 ∧ (opened.window 31).state = .free ∧
      windowRecord 0x1001F 0x10000 0x7FF 0 = some contents ∧
      ∃ j, ∃ r ∈ (opened.window j).reserved, rangesMeet contents.range r = true) ∧
    (CommandAccepted ready (frame record) 4 ∧ (ready.window 0).state = .free ∧
      windowRecord 0x10000 0x10000 0x7FF 0 = some contents ∧
      ∀ j, ∀ r ∈ (ready.window j).reserved, rangesMeet contents.range r = false) :=
  ⟨⟨accepts ready _ (by decide +kernel), by decide +kernel⟩, ⟨accepts opened _ (by decide +kernel), by decide +kernel⟩,
    by decide +kernel, ⟨accepts opened _ (by decide +kernel), by decide +kernel⟩,
    accepts ready _ (by decide +kernel), by decide +kernel⟩

theorem test_meets_WindowChangeAtOnce :
    ((opened.window 0).state = .live ∧ (opened.window 0).useCount = 0 ∧ opened.deferred = none) ∧
    (CommandAccepted opened (frame (record ++ [255])) 5 ∧ windowRecord 0x10000 0x10000 0x7FF 0 = some contents ∧
      (255 : Word) ≠ 0 ∧ (255 : Word).toNat ≤ 255 ∧
      ∀ j, j ≠ 0 → ∀ r ∈ (opened.window j).reserved, rangesMeet contents.range r = false) ∧
    (CommandAccepted opened (frame [0x100]) 1 ∧ (field 0x100 0 8).toNat = (0 : WindowIdx).val ∧ field 0x100 8 8 ≠ 0 ∧
      (0x100 : Word).toNat < 0x10000) :=
  ⟨by decide +kernel, ⟨accepts opened _ (by decide +kernel), by decide +kernel⟩, accepts opened _ (by decide +kernel),
    by decide +kernel⟩

theorem test_meets_DrainStart :
    ((tracked (entry .read none false .waiting 0)).window 0).state = .live ∧
    ((tracked (entry .read none false .waiting 0)).window 0).useCount ≠ 0 ∧
    (tracked (entry .read none false .waiting 0)).deferred = none ∧
    CommandAccepted (tracked (entry .read none false .waiting 0)) (frame (record ++ [1])) 5 ∧
    (CommandAccepted (tracked (entry .read none false .waiting 0)) (frame [0xFF00]) 1 ∧ field 0xFF00 8 8 ≠ 0 ∧
      (0xFF00 : Word).toNat < 0x10000 ∧ (field 0xFF00 0 8).toNat = (0 : WindowIdx).val) :=
  ⟨by decide +kernel, by decide +kernel, by decide +kernel, accepts _ _ (by decide +kernel), accepts _ _ (by decide +kernel),
    by decide +kernel⟩

/-- Windows 0 and 31 LIVE side by side, so that window 0 cannot take the contents of window 31. -/
def overlapping : State :=
  { ready with
    windows := (ready.windows.set 31 { state := .live, contents := contents, useCount := 0, hitCount := 0, pending := none }).set 0
      { state := .live, contents := { contents with logicalBase := 0x11000 }, useCount := 0, hitCount := 0, pending := none } }

theorem test_meets_WindowChangeRefused :
    CommandAccepted ready (frame [32]) 1 ∧ 32 ≤ (field 32 0 8).toNat ∧ (ready.window 31).state = .free ∧
    (CommandAccepted (draining .close 1) (frame [0x100]) 1 ∧ ((draining .close 1).window 0).state = .draining) ∧
    (draining .close 1).deferred ≠ none ∧
    (CommandAccepted opened (frame (record ++ [256])) 5 ∧ (opened.window 0).state = .live ∧ opened.deferred = none ∧
      255 < (256 : Word).toNat) ∧
    (CommandAccepted overlapping (frame (record ++ [255])) 5 ∧ (overlapping.window 0).state = .live ∧
      windowRecord 0x10000 0x10000 0x7FF 0 = some contents ∧
      ∃ j, j ≠ 0 ∧ ∃ r ∈ (overlapping.window j).reserved, rangesMeet contents.range r = true) ∧
    (CommandAccepted opened (frame [0x10100]) 1 ∧ 0x10000 ≤ (0x10100 : Word).toNat ∧ field 0xFF 8 8 = 0) :=
  ⟨accepts ready _ (by decide +kernel), by decide +kernel, by decide +kernel,
    ⟨accepts _ _ (by decide +kernel), by decide +kernel⟩, by decide +kernel,
    ⟨accepts opened _ (by decide +kernel), by decide +kernel⟩, ⟨accepts _ _ (by decide +kernel), by decide +kernel⟩,
    accepts opened _ (by decide +kernel), by decide +kernel⟩

theorem test_meets_DrainEnds :
    (draining .close 0).deferred = some { index := 0, requester := 0, tag := 5, timer := 0 } ∧
    ((draining .close 0).window 0).state = .draining ∧ ((draining .close 0).window 0).useCount = 0 ∧
    ((draining .close 0).window 0).pending = some ⟨.close, 1⟩ ∧
    ((draining (.replacement contents) 0).window 0).pending = some ⟨.replacement contents, 1⟩ ∧
    ((draining .close 1).window 0).useCount ≠ 0 ∧
    ({ index := 0, requester := 0, tag := 5, timer := 1 } : DeferredOp).timer ≠ 0 := by decide +kernel

theorem test_meets_WindowFind :
    CommandAccepted opened (frame [0x10FFF]) 1 ∧ (opened.window 0).state ≠ .free ∧
    (opened.window 0).contents.logicalBase.toNat ≤ (0x10FFF : Word).toNat ∧
    (0x10FFF : Word).toNat < (opened.window 0).contents.logicalBase.toNat + (opened.window 0).contents.size * 0x1000 ∧
    (∀ j, (opened.window j).containsAddr (0x10FFF : Word).toNat = true → j = 0) ∧
    ∀ i : WindowIdx, (opened.window i).state = .free ∨ (0x11000 : Word).toNat < (opened.window i).contents.logicalBase.toNat ∨
      (opened.window i).contents.logicalBase.toNat + (opened.window i).contents.size * 0x1000 ≤ (0x11000 : Word).toNat :=
  ⟨accepts opened _ (by decide +kernel), by decide +kernel⟩

theorem test_meets_StatusReads :
    CommandAccepted ready (frame [31]) 1 ∧ CommandAccepted ready (frame [3]) 1 ∧ CommandAccepted ready (frame [1]) 1 ∧
    CommandAccepted ready (frame []) 0 ∧ CommandAccepted (tracked (entry .read none false .waiting 0)) (frame [0]) 1 ∧
    (tracked (entry .read none false .waiting 0)).entry? 0 = some (entry .read none false .waiting 0) ∧
    ready.entry? 15 = none :=
  ⟨accepts ready _ (by decide +kernel), accepts ready _ (by decide +kernel), accepts ready _ (by decide +kernel),
    accepts ready _ (by decide +kernel), accepts _ _ (by decide +kernel), by decide +kernel, by decide +kernel⟩

/-- Tracking entry 0 behind entry 5 in dispatch order has rank 1. -/
theorem test_rank :
    ({ ready with tracking := [{ entry .read none false .waiting 0 with index := 5 }, entry .read none false .waiting 0] } :
      State).rankOf 0 = 1 := by decide +kernel

theorem test_meets_IdentRead : CommandAccepted ready (frame []) 0 := accepts ready _ (by decide +kernel)

theorem test_meets_WindowImageCarriesItsFields :
    (opened.window 0).contents.valid = true ∧ (opened.window 0).useCount ≤ 16 ∧ greatest.valid = true := by decide +kernel

/-- P0 locked for entry 15, with a failed upkeep of row 1023 and another in flight, and a half of channel 1 in its slot 3. -/
def fullPort : Port :=
  { ready.port 0 with
    lock := some 15
    slots := #v[.lingering, .free, .issued .upkeep (.upkeep 1023) 0, .issued (.copy 1 .write) (.write 0 [0]) 0]
    upkeep := { (ready.port 0).upkeep with inFlight := some ⟨1023, 15, .waiting⟩, lastFailedRow := some 1023 } }

theorem test_meets_PortImagesCarryTheirFields :
    fullPort.lock = some 15 ∧ fullPort.upkeep.inFlight = some ⟨1023, 15, .waiting⟩ ∧
    fullPort.upkeep.lastFailedRow = some 1023 ∧ (ready.port 0).upkeep.inFlight = none ∧
    (fullPort.statusImage.getD 0 0 = 0x000F8001 ∧ fullPort.statusImage.getD 3 0 = 0x39050002 ∧
      fullPort.counterBlock.getD 9 0 = 0x3FF ∧ fullPort.counterBlock.getD 10 0 = 0x801F03FF) := by decide +kernel

/-! ## Segment ports and tracking entries -/

theorem test_meets_IssueOfTheUpstreamEntry :
    (tracked (entry .read none false .waiting 0)).arbiterChoice 0 = some (.upstream (entry .read none false .waiting 0)) ∧
    ((tracked (entry .read none false .waiting 0)).port 0).freeOrder = 0 :: [1, 2, 3] := by decide +kernel

/-- A state in which P0 is locked by entry 0. -/
def locked (st : EntryState) : State :=
  (tracked (entry (.swap 1 2) (some .readHalf) false st 0)).updPort 0 fun q => { q with lock := some 0 }

/-- A state in which P0 has no free slot. -/
def full (s : State) : State := s.updPort 0 fun q => { q with freeOrder := [] }

/-- A state in which P0 has a pending upkeep. -/
def upkeepDue : State := ready.updPort 0 fun q => { q with upkeep := { q.upkeep with pending := true } }

theorem test_meets_ArbiterOrder :
    (ready.port 1).state ≠ .active ∧ (ready.resetn = false ∧ (ready.port 0).state = .active) ∧
    (((locked .waiting).port 0).lock = some 0 ∧ ((locked .waiting).port 0).freeOrder ≠ [] ∧
      ((full (locked .waiting)).port 0).freeOrder = []) ∧
    ((locked (.issued 0)).entry? 0 = some (entry (.swap 1 2) (some .readHalf) false (.issued 0) 0)) ∧
    ((upkeepDue.port 0).lock = none ∧ (upkeepDue.port 0).upkeep.offers = true) ∧
    (ready.port 0).upkeep.offers = false ∧ ((portIn ready 0 .active true).port 0).holdRequest = true ∧
    State.reset.bootOffers = true ∧ ready.bootOffers = false ∧
    (tracked (entry (.swap 1 2) (some .readHalf) false .waiting 0)).oldestWaiting 0 =
      some (entry (.swap 1 2) (some .readHalf) false .waiting 0) ∧
    (withChannel ready (channelWith .running .continuous none 2)).copyReady 0 true = some 0 ∧
    (withChannel ready (channelWith .running .yielding none 2)).copyReady 0 true = none ∧
    (withChannel ready (channelWith .running .yielding none 2)).copyReady 0 false = some 0 ∧
    (tracked (entry .read none false .waiting 0)).copyReady 0 false = none ∧ ready.oldestWaiting 0 = none := by decide +kernel

/-- In a quiet part with a LIVE window nothing follows and no install is due. -/
theorem opened_nothingDue : NothingDue opened where
  dispatch := nofun
  quiet := nofun
  arbiters := by decide +kernel
  settles := fun p x => by revert p; cases x <;> decide +kernel
  install := rfl

theorem test_meets_FollowUpOfAnEvent :
    NothingFollows opened ∧
    (((locked .waiting).tracking.map TrackEntry.index).Nodup ∧
      ∀ p i, ((locked .waiting).port p).lock = some i → ∃ e ∈ (locked .waiting).tracking, e.index = i ∧ e.port = p) ∧
    ((tracked (entry .read none false .waiting 0)).arbiterChoice 0 = some (.upstream (entry .read none false .waiting 0)) ∧
      State.reset.arbiterChoice 0 = some .boot ∧ upkeepDue.arbiterChoice 0 = some .upkeep ∧
      (portIn ready 0 .active true).arbiterChoice 0 = some .hold ∧
      (withChannel ready (channelWith .running .yielding none 2)).arbiterChoice 0 = some (.copy 0)) ∧
    ((portIn ready 0 (.settling .held) true).arbiterChoice 0 = none ∧
      ((portIn ready 0 (.settling .held) true).port 0).anyIssued = false ∧
      ((portIn ready 0 (.settling .held) true).port 0).state = .settling .held) :=
  ⟨opened_nothingDue.toNothingFollows, by decide +kernel⟩

/-- The hypotheses about an entry that holds slot 0 of P0 are met. -/
theorem entry_in_slot (body : ReqBody) (phase : Option SwapPhase) (posted : Bool) (retries : Nat) :
    EntryInSlot (issuedState (entry body phase posted (.issued 0) retries)) 0 0 (entry body phase posted (.issued 0) retries) where
  held := { listening := rfl, notResetting := nofun, slot := ⟨_, _, rfl⟩ }
  entry := rfl
  issued := rfl
  port := rfl

theorem test_meets_EntryCompletes :
    EntryInSlot (issuedState (entry .read none false (.issued 0) 2)) 0 0 (entry .read none false (.issued 0) 2) ∧
    EntryInSlot (issuedState (entry (.write [1]) none true (.issued 0) 3)) 0 0 (entry (.write [1]) none true (.issued 0) 3) ∧
    (2 < ((issuedState (entry .read none false (.issued 0) 2)).port 0).config.retryLimit.toNat ∧
      ((issuedState (entry (.write [1]) none true (.issued 0) 3)).port 0).config.retryLimit.toNat ≤ 3) :=
  ⟨entry_in_slot .read none false 2, entry_in_slot (.write [1]) none true 3, by decide +kernel⟩

theorem test_meets_SwapHalves :
    EntryInSlot (issuedState (entry (.swap 1 2) (some .readHalf) false (.issued 0) 0)) 0 0
      (entry (.swap 1 2) (some .readHalf) false (.issued 0) 0) ∧
    EntryInSlot (issuedState (entry (.swap 1 2) (some (.writeHalf 1)) false (.issued 0) 0)) 0 0
      (entry (.swap 1 2) (some (.writeHalf 1)) false (.issued 0) 0) :=
  ⟨entry_in_slot (.swap 1 2) (some .readHalf) false 0, entry_in_slot (.swap 1 2) (some (.writeHalf 1)) false 0⟩

/-- P0 with all four slots LINGERING. -/
def stalled : State := ready.updPort 0 fun q => { q with slots := #v[.lingering, .lingering, .lingering, .lingering], freeOrder := [] }

theorem test_meets_TimeoutsLateAndStrayCompletions :
    EntryInSlot (issuedState (entry .read none false (.issued 0) 0)) 0 0 (entry .read none false (.issued 0) 0) ∧
    ((portIn ready 0 .resetting false).port 0).state = .resetting ∧
    (stalled.resetn = false ∧ (stalled.port 0).state ≠ .resetting ∧ (stalled.port 0).slot 3 = .lingering) ∧
    (ready.port 0).slot 3 = .free ∧ ((∀ j, (stalled.port 0).slot j = .lingering) ∧ (stalled.port 0).stallReport = false) ∧
    (((issuedState (entry .read none false (.issued 0) 0)).port 0).slot 0).expired = true ∧
    ((stalled.port 0).slot 0).expired = false ∧ ∃ j, (ready.port 0).slot j ≠ .lingering :=
  ⟨entry_in_slot .read none false 0, by decide +kernel⟩

theorem test_meets_PortSettings :
    (CommandAccepted ready (frame [3, 0x10000, 0x4000000]) 3 ∧ field 0x10000 0 2 = 0 ∧
      portRecord 0x10000 0x4000000 =
        some { accessTimeout := 0, retryLimit := 0, resetPulse := 1, holdLimit := 0, interval := 0, rowLimit := 1024 }) ∧
    (field 0x10001 0 2 ≠ 0 ∧ portRecord 0x10000 0x4010000 = none) ∧
    (CommandAccepted ready (frame [1]) 1 ∧ (ready.port 1).state = .disabled ∧ (ready.port 0).state ≠ .disabled) ∧
    ((portIn ready 0 .held true).port 0).state = .held ∧
    (CommandAccepted (tracked (entry .read none false .waiting 0)) (frame [0]) 1 ∧
      ∃ e ∈ (tracked (entry .read none false .waiting 0)).tracking, e.port = 0) ∧
    (CommandAccepted ready (frame [0]) 1 ∧ (ready.port 0).state = .active ∧
      (∀ e ∈ ready.requestQueue, (ready.window e.window).contents.port ≠ 0) ∧ (∀ e ∈ ready.tracking, e.port ≠ 0) ∧
      (∀ c, (ready.channel c).names 0 = false) ∧ (∀ k, (ready.port 0).slot k = .free) ∧
      (ready.port 0).upkeep.inFlight = none) :=
  ⟨⟨accepts ready _ (by decide +kernel), by decide +kernel⟩, by decide +kernel,
    ⟨accepts ready _ (by decide +kernel), by decide +kernel⟩, by decide +kernel,
    ⟨accepts _ _ (by decide +kernel), by decide +kernel⟩, accepts ready _ (by decide +kernel), by decide +kernel⟩

/-- One tracking entry of window 0: the use counts agree. -/
theorem tracked_useCounts : UseCountLaw (tracked (entry .read none false .waiting 0)) where
  indexes := by simp [tracked]
  counts := by decide +kernel
  free := by decide +kernel
  bound := by decide +kernel
  draining := fun i => ⟨fun h => by revert h; revert i; decide +kernel, nofun⟩
  waiting := by decide +kernel
  locks := by decide +kernel

theorem test_meets_PortReset :
    CommandAccepted (tracked (entry .read none false .waiting 0)) (frame [0]) 1 ∧
    ((tracked (entry .read none false .waiting 0)).port 0).state = .active ∧
    UseCountLaw (tracked (entry .read none false .waiting 0)) ∧ ((portIn ready 0 .held true).port 0).state = .held ∧
    ((portIn ready 0 .resetting false).port 0).state = .resetting ∧
    ((tracked (entry .read none false .waiting 0)).requestQueue = [] ∧ (tracked (entry .read none false .waiting 0)).deferred = none ∧
      ∃ e ∈ (tracked (entry .read none false .waiting 0)).tracking, e.port = 0) :=
  ⟨accepts _ _ (by decide +kernel), by decide +kernel, tracked_useCounts, by decide +kernel, by decide +kernel⟩

/-- An edge of the hold request line to the level it has already changes nothing. -/
theorem test_hold_request_without_an_edge :
    exec (.holdRequestDeasserted 0) ready = .next ready ∧
    exec (.holdRequestAsserted 0) (portIn ready 0 .held true) = .next (portIn ready 0 .held true) := by
  have low : (ready.port 0).holdRequest = false := by decide +kernel
  have high : ((portIn ready 0 .held true).port 0).holdRequest = true := by decide +kernel
  simp [exec, execHoldRequestDeasserted, execHoldRequestAsserted, low, high]

theorem test_meets_HoldHandover :
    (portIn ready 0 .active true).arbiterChoice 0 = some .hold ∧
    (((portIn ready 0 (.settling .held) true).port 0).state = .settling .held ∧
      ((portIn ready 0 (.settling .held) true).port 0).anyIssued = false) ∧
    ((portIn ready 0 (.settling .stopped) false).port 0).state = .settling .stopped ∧ (ready.port 0).holdRequest = false ∧
    ((portIn ready 0 .held true).port 0).holdRequest = true ∧
    (({ (portIn ready 0 .held true).port 0 with holdTimer := some 0 } : Port).holdTimer = some 0) ∧
    (ready.port 0).holdTimer ≠ some 0 ∧ (ready.port 0).state ≠ .resetting ∧
    ({ ready.port 0 with state := .resetting, pulse := some ⟨0, some (0, 5)⟩ } : Port).pulse =
      some { timer := 0, answerTo := some (0, 5) } := by decide +kernel

/-! ## Upkeep and the Copy Engine -/

/-- An upkeep that holds slot 0 of P0. -/
def upkeepIssued (retries : Nat) : State :=
  (holding ready 0 .upkeep (.upkeep 1023)).updPort 0 fun q =>
    { q with upkeep := { q.upkeep with inFlight := some ⟨1023, retries, .issued⟩, timer := some ⟨0, 5⟩ } }

/-- An upkeep that waits to be issued again. -/
def upkeepWaiting : State := ready.updPort 0 fun q => { q with upkeep := { q.upkeep with inFlight := some ⟨0, 1, .waiting⟩ } }

theorem test_meets_UpkeepAccesses :
    (upkeepDue.arbiterChoice 0 = some .upkeep ∧ (upkeepDue.port 0).freeOrder = 0 :: [1, 2, 3] ∧
      (upkeepDue.port 0).upkeep.inFlight = none) ∧
    ((upkeepWaiting.arbiterChoice 0 = some .upkeep) ∧ (upkeepWaiting.port 0).upkeep.inFlight = some ⟨0, 1, .waiting⟩) ∧
    ((upkeepIssued 2).port 0).upkeep.timer = some ⟨0, 5⟩ ∧
    HeldSlot (upkeepIssued 2) 0 0 .upkeep ∧ ((upkeepIssued 2).port 0).upkeep.inFlight = some ⟨1023, 2, .issued⟩ ∧
    2 < ((upkeepIssued 2).port 0).config.retryLimit.toNat ∧ ((upkeepIssued 3).port 0).config.retryLimit.toNat ≤ 3 ∧
    (((upkeepIssued 2).port 0).slot 0).expired = true ∧ (ready.port 0).upkeep.timer = none :=
  ⟨by decide +kernel, by decide +kernel, by decide +kernel, ⟨rfl, nofun, ⟨_, _, rfl⟩⟩, by decide +kernel⟩

theorem test_meets_CopyHalfIssueAndPace :
    (withChannel ready (channelWith .running .continuous none 2)).arbiterChoice 0 = some (.copy 0) ∧
    ((withChannel ready (channelWith .running .continuous none 2)).port 0).freeOrder = 0 :: [1, 2, 3] ∧
    ((withChannel ready (channelWith .running .continuous none 2)).channel 0).current =
      some { desc := descriptor .continuous, remaining := 2, src := 0x100, dst := 0x200 } ∧
    (withChannel ready (channelWith .running .yielding (some ⟨.readHalf, .waiting, 1⟩) 2)).arbiterChoice 0 = some (.copy 0) ∧
    (portIn (withChannel ready (channelWith .running .yielding (some ⟨.writeHalf 5, .ready, 0⟩) 2)) 1 .active false).arbiterChoice 1 =
      some (.copy 0) := by decide +kernel

/-- Half h of channel 0 holds slot 0 of the port of its half. -/
def halfIssued (st : ChannelState) (h : Half) (remaining retries : Nat) : State :=
  holding (withChannel ready (channelWith st .yielding
      (some ⟨match h with
        | .read => .readHalf
        | .write => .writeHalf 5, .issued 0, retries⟩) remaining)) 0 (.copy 0 h) (.read 0x100 1)

theorem test_meets_CopyHalfEnds :
    HalfInSlot (halfIssued .running .read 2 2) 0 0 0 .read
      { desc := descriptor .yielding, remaining := 2, src := 0x100, dst := 0x200 } ⟨.readHalf, .issued 0, 2⟩ ∧
    HalfInSlot (halfIssued .running .write 1 3) 0 0 0 .write
      { desc := descriptor .yielding, remaining := 1, src := 0x100, dst := 0x200 } ⟨.writeHalf 5, .issued 0, 3⟩ ∧
    HalfInSlot (halfIssued .aborting .write 2 0) 0 0 0 .write
      { desc := descriptor .yielding, remaining := 2, src := 0x100, dst := 0x200 } ⟨.writeHalf 5, .issued 0, 0⟩ ∧
    ((halfIssued .running .read 2 2).channel 0).state ≠ .aborting ∧
    ((halfIssued .aborting .write 2 0).channel 0).state = .aborting ∧
    2 < ((halfIssued .running .read 2 2).port 0).config.retryLimit.toNat ∧
    (((halfIssued .aborting .write 2 0).port 0).slot 0).expired = true :=
  ⟨⟨⟨rfl, nofun, ⟨_, _, rfl⟩⟩, rfl, rfl, rfl, rfl⟩, ⟨⟨rfl, nofun, ⟨_, _, rfl⟩⟩, rfl, rfl, rfl, rfl⟩,
    ⟨⟨rfl, nofun, ⟨_, _, rfl⟩⟩, rfl, rfl, rfl, rfl⟩, by decide +kernel⟩

/-- A descriptor of 65536 words that the words of 12.3 hold in full. -/
def longest : Descriptor := { descriptor (.paced 3 .edge) with count := 65536 }

theorem test_meets_RecordImagesCarryTheirFields :
    (let s := withChannel ready
      { channelWith .faulted .yielding (some ⟨.writeHalf 5, .issued 3, 15⟩) 65536 with
        pending := some longest, lastFault := some ⟨.write, .portReset⟩ }
     ((s.channel 0).current.map CurrentCopy.desc = some (descriptor .yielding) ∧ (s.channel 0).pending = some longest ∧
       (s.channel 0).unit = some ⟨.writeHalf 5, .issued 3, 15⟩ ∧ (s.channel 0).lastFault = some ⟨.write, .portReset⟩) ∧
     ∀ cur, (s.channel 0).current = some cur → cur.remaining ≤ 65536) ∧
    ((ready.channel 1).pending = none ∧ (ready.channel 1).current = none ∧ (ready.channel 1).unit = none ∧
      (ready.channel 1).lastFault = none) ∧
    ((withChannel ready (channelWith .running (.paced 3 .edge) none 2)).channel 0).current =
      some { desc := descriptor (.paced 3 .edge), remaining := 2, src := 0x100, dst := 0x200 } ∧
    ((entry .read none false (.issued 0) 15).length ≤ 16 ∧ (entry .read none false (.issued 0) 15).retries ≤ 15 ∧
      ((issuedState (entry .read none false (.issued 0) 15)).port 0).slot 0 = .issued (.tracking 0) (.read 0x1000 1) 0) ∧
    ({ ready.mc with timer := .running 4000 } : ModeController).timer = .running 4000 ∧ ready.cause.resetCount ≤ 65535 := by
  refine ⟨⟨by decide +kernel, ?_⟩, by decide +kernel⟩
  rintro cur h
  cases h
  decide

/-- Operands of CHANNEL LOAD: 65536 words from S0 to S0, both addresses held. -/
def loadWords : List Word := [0, 0x80000100, 0x80000200, 0xFFFF]

theorem test_meets_ChannelLoad :
    (CommandAccepted ready (frame [2, 0, 0, 0]) 4 ∧ 2 ≤ (field 2 0 8).toNat) ∧
    (CommandAccepted (withChannel ready (channelWith .aborting .yielding none 2)) (frame loadWords) 4) ∧
    (CommandAccepted (withChannel ready { channelWith .running .yielding none 2 with pending := some (descriptor .yielding) })
      (frame loadWords) 4) ∧
    (descriptorWords 0xC0000100 0x80000200 0 = none ∧ 256 ≤ (0x100 : Word).toNat) ∧
    (CommandAccepted ready (frame loadWords) 4 ∧ (ready.channel 0).state ≠ .aborting ∧ (ready.channel 0).pending = none ∧
      (∃ d, descriptorWords 0x80000100 0x80000200 0xFFFF = some d ∧ d.count = 65536 ∧
        ∀ p, d.names p = true → (ready.port p).state ≠ .disabled)) ∧
    (∃ d, descriptorWords 0x80000100 0x90000200 0 = some d ∧ ∃ p, d.names p = true ∧ (ready.port p).state = .disabled) :=
  ⟨⟨accepts ready _ (by decide +kernel), by decide +kernel⟩, accepts _ _ (by decide +kernel), accepts _ _ (by decide +kernel),
    by decide +kernel, ⟨accepts ready _ (by decide +kernel), by decide +kernel, by decide +kernel, _, rfl, by decide +kernel⟩,
    _, rfl, by decide +kernel⟩

theorem test_meets_ChannelAndEngineCommands :
    (CommandAccepted ready (frame [1]) 1 ∧ (ready.channel 1).state = .idle) ∧
    (CommandAccepted (withChannel ready (channelWith .aborting .yielding none 2)) (frame [0]) 1) ∧
    (CommandAccepted (halfIssued .running .read 2 0) (frame [0]) 1 ∧
      ((halfIssued .running .read 2 0).channel 0).unit = some ⟨.readHalf, .issued 0, 0⟩) ∧
    (CommandAccepted (withChannel ready (channelWith .faulted .yielding none 2)) (frame [0]) 1 ∧
      ((withChannel ready (channelWith .faulted .yielding none 2)).channel 0).current =
        some { desc := descriptor .yielding, remaining := 2, src := 0x100, dst := 0x200 } ∧
      ∀ ph k r, ((withChannel ready (channelWith .faulted .yielding none 2)).channel 0).unit ≠ some ⟨ph, .issued k, r⟩) ∧
    (CommandAccepted ready (frame []) 0 ∧ ready.mc.mode = .run ∧ ready.engineEnable = true) ∧
    ({ ready with engineEnable := false } : State).engineEnable = false ∧ (inMode ready .quiet).mc.mode ≠ .run :=
  ⟨⟨accepts ready _ (by decide +kernel), by decide +kernel⟩, accepts _ _ (by decide +kernel),
    ⟨accepts _ _ (by decide +kernel), by decide +kernel⟩, ⟨accepts _ _ (by decide +kernel), by decide +kernel, nofun⟩,
    ⟨accepts ready _ (by decide +kernel), by decide +kernel⟩, by decide +kernel, by decide +kernel⟩

theorem test_meets_ChannelClear :
    (CommandAccepted ready (frame [2]) 1 ∧ 2 ≤ (field 2 0 8).toNat) ∧
    (CommandAccepted (withChannel ready (channelWith .faulted .yielding none 2)) (frame [0]) 1 ∧
      ((withChannel ready (channelWith .faulted .yielding none 2)).channel 0).state = .faulted) ∧
    (CommandAccepted ready (frame [1]) 1 ∧ (ready.channel 1).state ≠ .faulted) :=
  ⟨⟨accepts ready _ (by decide +kernel), by decide +kernel⟩, ⟨accepts _ _ (by decide +kernel), by decide +kernel⟩,
    accepts ready _ (by decide +kernel), by decide +kernel⟩

/-! ## Settings and modes -/

theorem test_meets_SettingsAndCounters :
    (CommandAccepted ready (frame [0x7FFE]) 1 ∧ (0x7FFE : Word) &&& 0xFFFF8001 = 0 ∧ (0x8000 : Word) &&& 0xFFFF8001 ≠ 0) ∧
    (CommandAccepted ready (frame [0xFF]) 1 ∧ (0xFF : Word).toNat < 256 ∧ (0xFF : Word).getLsbD (0 : Requester).val = true ∧
      256 ≤ (0x101 : Word).toNat ∧ (0xFE : Word).getLsbD (0 : Requester).val = false) ∧
    (CommandAccepted ready (frame [0x1FF]) 1 ∧ (0x1FF : Word) &&& 0xFFFFFE00 = 0 ∧ (0x200 : Word) &&& 0xFFFFFE00 ≠ 0) ∧
    (CommandAccepted ready (frame [0x103]) 1 ∧ (0x103 : Word) = BitVec.ofNat 32 (256 + (3 : PortId).val)) ∧
    CommandAccepted ready (frame [3]) 1 ∧ CommandAccepted ready (frame [0x80]) 1 ∧ CommandAccepted ready (frame [0x180]) 1 ∧
    (CommandAccepted ready (frame [4]) 1 ∧ 4 ≤ (field 4 0 8).toNat ∧ (field 4 0 8).toNat ≠ 0x80) ∧
    (CommandAccepted ready (frame [0x280]) 1 ∧ (field 0x280 0 8).toNat = 0x80 ∧ 0x200 ≤ (0x280 : Word).toNat) :=
  ⟨⟨accepts ready _ (by decide +kernel), by decide +kernel⟩, ⟨accepts ready _ (by decide +kernel), by decide +kernel⟩,
    ⟨accepts ready _ (by decide +kernel), by decide +kernel⟩, ⟨accepts ready _ (by decide +kernel), by decide +kernel⟩,
    accepts ready _ (by decide +kernel), accepts ready _ (by decide +kernel), accepts ready _ (by decide +kernel),
    ⟨accepts ready _ (by decide +kernel), by decide +kernel⟩, accepts ready _ (by decide +kernel), by decide +kernel⟩

/-- QUIESCING with the quiesce conditions met. -/
def quiescent (stopOnQuiet : Bool) : State := { ready with mc := { ready.mc with mode := .quiescing, stopOnQuiet := stopOnQuiet } }

theorem test_meets_ModeChanges :
    CommandAccepted ready (frame []) 0 ∧ CommandAccepted (inMode ready .quiescing) (frame []) 0 ∧
    CommandAccepted (inMode ready .quiet) (frame []) 0 ∧ CommandAccepted (inMode ready .stop) (frame []) 0 ∧
    ((quiescent true).mc.mode = .quiescing ∧ (quiescent true).mc.queueEmpty = true ∧ (quiescent true).mc.trackingEmpty = true ∧
      (quiescent true).mc.unitsInFlight = false ∧ (quiescent true).mc.stopOnQuiet = true ∧
      (quiescent false).mc.stopOnQuiet = false) ∧
    (ready.requestQueue = [] ∧ ready.mc.queueEmpty = true ∧ ready.mc.trackingEmpty = true ∧ ready.mc.unitsInFlight = false ∧
      ready.mc.stopOnQuiet = false) :=
  ⟨accepts ready _ (by decide +kernel), accepts _ _ (by decide +kernel), accepts _ _ (by decide +kernel),
    accepts _ _ (by decide +kernel), by decide +kernel, by decide +kernel⟩

theorem test_meets_SupervisionEscalates :
    ({ ready.mc with timer := .running 0, period := 1 } : ModeController).timer = .running 0 ∧ ready.mc.mode = .run ∧
    ((halfIssued .running .read 2 0).port 0).state = .active ∧ ((halfIssued .running .read 2 0).port 0).anyIssued = true ∧
    ((ready.port 0).anyIssued = false ∧ (ready.port 0).holdRequest = false) ∧ (ready.port 1).state ≠ .active ∧
    (((portIn ready 0 .active true).port 0).anyIssued = false ∧ ((portIn ready 0 .active true).port 0).holdRequest = true) ∧
    ready.mc.timer ≠ .running 0 ∧
    (ready.requestQueue = [] ∧ ready.mc.queueEmpty = true ∧ ready.mc.trackingEmpty = true ∧ ready.mc.unitsInFlight = false) ∧
    (tracked (entry .read none false .waiting 0)).mc.trackingEmpty = false := by
  decide +kernel

/-! ## Start-up -/

/-- A boot read that holds slot 0 of P0, with the words staged before it. -/
def booting (phase : BootPhase) (staging : List Word) (count retries : Nat) : State :=
  holding
    { State.reset with
      boot := { BootReader.initial with phase := phase, staging := staging, inFlight := some ⟨0, count, retries, .issued⟩ } }
    0 .boot (.read 0 count)

/-- The hypothesis about the slot of a boot read is met. -/
theorem boot_in_slot (phase : BootPhase) (staging : List Word) (count retries : Nat) :
    HeldSlot (booting phase staging count retries) 0 0 .boot := ⟨rfl, nofun, ⟨_, _, rfl⟩⟩

theorem test_meets_BootReads :
    (State.reset.arbiterChoice 0 = some .boot ∧ (State.reset.port 0).freeOrder = 0 :: [1, 2, 3] ∧
      State.reset.boot.inFlight = none) ∧
    (({ State.reset with boot := { BootReader.initial with inFlight := some ⟨0, 4, 1, .waiting⟩ } } : State).arbiterChoice 0 =
      some .boot) ∧
    (HeldSlot (booting .header [] 4 2) 0 0 .boot ∧ (booting .header [] 4 2).boot.inFlight = some ⟨0, 4, 2, .issued⟩ ∧
      2 < ((booting .header [] 4 2).port 0).config.retryLimit.toNat ∧
      ((booting .header [] 4 3).port 0).config.retryLimit.toNat ≤ 3 ∧
      (((booting .header [] 4 2).port 0).slot 0).expired = true) :=
  ⟨by decide +kernel, by decide +kernel, boot_in_slot .header [] 4 2, by decide +kernel⟩

/-- An image with no windows: the marker, the port records with the least settings, and the word that makes the sum 0. -/
def image : List Word :=
  [0x4D475231, 0, 0, 0, 0x10001, 0x4000000, 0x10000, 0x4000000, 0x10000, 0x4000000, 0x10000, 0x4000000, 0]

/-- The last word of an image, which makes the sum of its words 0. -/
def withCheck (words : List Word) : List Word := words.set 2 (0 - words.foldl (· + ·) 0)

theorem test_meets_BootImageIsValidatedAndApplied :
    (HeldSlot (booting .header [] 4 0) 0 0 .boot ∧ ([0, 0, 0, 0] : List Word).getD 0 0 ≠ 0x4D475231 ∧
      ([0x4D475231, 33, 0, 0] : List Word).getD 0 0 = 0x4D475231 ∧ 32 < (([0x4D475231, 33, 0, 0] : List Word).getD 1 0).toNat ∧
      (([0x4D475231, 32, 0, 0] : List Word).getD 1 0).toNat ≤ 32) ∧
    (HeldSlot (booting .body (image.take 4) 9 0) 0 0 .boot ∧ (image.take 4 ++ image.drop 4).length = 13 ∧
      image.foldl (· + ·) 0 ≠ 0 ∧ (withCheck image).foldl (· + ·) 0 = 0 ∧
      ∃ im, ({ BootReader.initial with staging := withCheck image } : BootReader).records = some im ∧
        (im.windows.map Prod.fst).Nodup ∧ im.ports.length = 4) :=
  ⟨⟨boot_in_slot .header [] 4 0, by decide +kernel⟩, boot_in_slot .body (image.take 4) 9 0, by decide +kernel, by decide +kernel,
    by decide +kernel, _, rfl, by decide +kernel⟩

/-! ## Notices and invariants -/

/-- A full notice queue of LATE_COMPLETION and STRAY_COMPLETION of the four ports. -/
def fullQueue : List NoticeRecord :=
  (List.finRange 4).map (fun p => ⟨.lateCompletion p 0, 255⟩) ++ (List.finRange 4).map fun p => ⟨.strayCompletion p 0, 1⟩

theorem test_meets_RaisedNotice :
    ((0 : BitVec 15).getLsbD (Notice.kindCode .linkRestored) = false ∧
      NoticeUnit.initial.mask.getLsbD (Notice.kindCode .linkRestored) = true) ∧
    (fullQueue = [] ++ ⟨.lateCompletion 0 0, 255⟩ :: fullQueue.tail ∧
      ∀ x ∈ fullQueue.tail, ¬ (x.notice.kindCode = Notice.kindCode (.lateCompletion 0 1) ∧
        x.notice.subject = Notice.subject (.lateCompletion 0 1))) ∧
    (fullQueue.length = 8 ∧ ∀ x ∈ fullQueue, ¬ (x.notice.kindCode = Notice.kindCode .linkRestored ∧
        x.notice.subject = Notice.subject .linkRestored)) := by decide +kernel

/-- The invariants have a state and a step that meet the premises of the statements about them: the state after reset, whose first
own step is a read of the boot image. -/
theorem test_meets_StepKeeps : ∃ t, step State.reset = .next t ∧ t.boot.inFlight = some ⟨0, 4, 0, .issued⟩ :=
  ⟨_, rfl, rfl⟩

/-- The part in RUN with one LIVE window satisfies the premises of the statements about the boot, the use counts and what is due. -/
theorem test_meets_StepKeepsNothingDue :
    BootLaw opened ∧ UseCountLaw opened ∧ NothingDue opened ∧ opened.pending = [] ∧ opened.ownStep = none :=
  ⟨{ phase := by decide
     windows := nofun
     deferred := nofun
     queues := nofun
     credits := nofun
     link := nofun
     pulses := nofun
     reads := fun _ => rfl },
   { indexes := List.nodup_nil
     counts := by decide +kernel
     free := by decide +kernel
     bound := nofun
     draining := fun i => ⟨fun h => by revert h; revert i; decide +kernel, nofun⟩
     waiting := by decide +kernel
     locks := by decide +kernel },
   opened_nothingDue, rfl, by decide +kernel⟩

/-! ## What comes about within an event -/

/-- A command leaves a state that meets a condition. -/
def leaves (c : Instr) (s : State) (good : State → Bool) : Bool :=
  match exec c s with
  | .next t => good t
  | _ => false

/-- Window 0 drains for a close; its one entry, in slot 0 of P0, completes: the window is FREE, and the deferred OK stands behind the
entry's answer (R11, R24, R71). -/
theorem test_install_in_the_event_of_the_last_end :
    leaves (.completion 0 0 .ok [7])
      { issuedState (entry .read none false (.issued 0) 0) with
        windows := (draining .close 1).windows, deferred := (draining .close 1).deferred }
      (fun t => (t.window 0).state = .free ∧ t.deferred = none ∧ t.tracking = [] ∧
        t.li.responses = [okResponse 1 7 .data [7], okResponse 0 5 .management []]) := by decide +kernel

/-- A data request is bound, dispatched and issued in one event (R36, R42, R82). -/
theorem test_dispatch_and_issue_in_the_binding_event :
    leaves (.dataRequest (readFrame 0x10FFC 1)) opened
      (fun t => t.requestQueue = [] ∧ t.tracking.map TrackEntry.state = [.issued 0] ∧
        (t.port 0).slot 0 = .issued (.tracking 0) (.read 0x1FFC 1) 1000) := by decide +kernel

/-- An upkeep that has become pending is issued in the event of the expiry (R101). -/
theorem test_upkeep_issue_in_the_event_of_its_expiry :
    leaves (.upkeepExpiry 0) (ready.updPort 0 fun q => { q with upkeep := { q.upkeep with timer := some ⟨0, 5⟩ } })
      (fun t => (t.port 0).upkeep.pending = false ∧ (t.port 0).upkeep.inFlight = some ⟨0, 0, .issued⟩ ∧
        (t.port 0).upkeep.missed = 0) := by decide +kernel

/-- QUIESCE reaches QUIET in its own event, and an expiry with time left changes nothing (R136, R137, R148). -/
theorem test_quiet_in_the_event_of_quiesce :
    leaves (.quiesce (frame [])) ready (fun t => t.mc.mode = .quiet) ∧
    leaves .supervisionTimerExpiry { ready with mc := { ready.mc with timer := .running 1 } } (fun t => t.mc.mode = .run) ∧
    leaves .silenceTimerExpiry ready (fun t => t.li.up = true) := by decide +kernel

/-- POWER_ON begins the boot and issues its first read (R183, R188). -/
theorem test_first_boot_read_in_the_event_of_power_on :
    leaves .powerOn ready (fun t => t.boot.inFlight = some ⟨0, 4, 0, .issued⟩ ∧ t.mc.mode = .booting) := by decide +kernel

/-- An opening delimiter within a frame ends it as a failed one; a byte and a closing delimiter outside a frame stand for nothing
(R171). -/
theorem test_received_line :
    receivedLine none [.closing, .opening, .byte 2, .opening, .byte 2, .byte 4, .fill, .byte 0, .byte 0, .closing, .byte 1] =
      [.frameCheckFailed, .fill, .frameCheckFailed] := by decide +kernel

end Sys2Proof.Tests
end

section
/-! PROOFS. WINDOW FIND (R29): lookup by R7 as a range test on each window, and the command as that lookup with nothing changed. -/

namespace Sys2Proof.Machine

/-- Containment is the range test on a window in use (R7). -/
theorem Window.containsAddr_iff (w : Window) (a : Nat) : w.containsAddr a = true ↔
    w.state ≠ .free ∧ w.contents.logicalBase.toNat ≤ a ∧ a < w.contents.logicalBase.toNat + w.contents.size * 0x1000 := by
  simp [Window.containsAddr, Window.inUse, Contents.first, Contents.past, Config.granule, and_assoc]

/-- A window does not contain what lies before or past its range, and a FREE window contains nothing (R7). -/
theorem Window.containsAddr_eq_false_iff (w : Window) (a : Nat) : w.containsAddr a = false ↔
    w.state = .free ∨ a < w.contents.logicalBase.toNat ∨ w.contents.logicalBase.toNat + w.contents.size * 0x1000 ≤ a := by
  rw [← Bool.not_eq_true, Window.containsAddr_iff, not_and_or, not_and_or, not_not, Nat.not_le, Nat.not_lt]

/-- Lookup finds the one window that contains the address (R7). -/
theorem State.windowAt_some {s : State} {a : Nat} {i : WindowIdx} (h : (s.window i).containsAddr a = true)
    (only : ∀ j, (s.window j).containsAddr a = true → j = i) : s.windowAt a = some i :=
  find_one i _ h only

/-- Lookup finds nothing exactly when no window contains the address (R7). -/
theorem State.windowAt_none_iff {s : State} {a : Nat} : s.windowAt a = none ↔ ∀ i, (s.window i).containsAddr a = false := by
  simp [State.windowAt]

/-- An accepted WINDOW FIND answers the lookup of its address in the table as it stands, and changes nothing else (R29, R160). -/
theorem exec_windowFind_accepted {s : State} {f : MgmtFrame} (h : CommandAccepted s f 1) :
    exec (.windowFind f) s = .next (s.answeredOk f .windowFind [findWord (s.windowAt (f.word 0).toNat)]) := by
  have act : windowFindAct f (s.answerDeferred f .windowFind) =
      (s.answerDeferred f .windowFind, .ok [findWord (s.windowAt (f.word 0).toNat)]) := by
    simp only [windowFindAct, unchanged, State.windowAt_answerDeferred]
  exact congrArg _ (State.manage_read s .windowFind 1 f windowFindAct _ h act)

/-- Settles O26: containment by R7 decides the lookup, and the lookup is the answer. -/
theorem windowFind : Obligations.WindowFind := by
  intro f s accepted
  rw [exec_windowFind_accepted accepted]
  refine ⟨fun i inUse lower upper only => ?_, fun outside => ?_⟩
  · have found : s.windowAt (f.word 0).toNat = some i :=
      State.windowAt_some ((Window.containsAddr_iff _ _).2 ⟨inUse, lower, upper⟩) only
    rw [found]
    rfl
  · have missed : s.windowAt (f.word 0).toNat = none :=
      State.windowAt_none_iff.2 fun i => (Window.containsAddr_eq_false_iff _ _).2 (outside i)
    rw [missed]
    rfl

end Sys2Proof.Machine
end

section
/-! PROOFS. The format check (R35): which requests of each kind pass it, from which those that fail follow; and admission of a request as
far as its refusal after the mode check, in RUN and after the wake of R141. -/

namespace Sys2Proof

open Sys2Proof.Machine

/-! ## The format check -/

/-- What R35 asks of a request whatever its kind: not marked malformed, 1 to 16 words, an aligned address. -/
def DataFrame.HeaderPasses (f : DataFrame) : Prop :=
  f.malformed = false ∧ 1 ≤ f.length.toNat ∧ f.length.toNat ≤ 16 ∧ f.address.toNat % 4 = 0

/-- The first test of the format check is that of the header (R35). -/
theorem DataFrame.headerTest_iff (f : DataFrame) :
    (f.malformed || f.length.toNat == 0 || decide (16 < f.length.toNat) || f.address.toNat % 4 != 0) = true ↔ ¬ f.HeaderPasses := by
  cases marked : f.malformed <;> simp [HeaderPasses, marked]
  omega

/-- A request whose header fails is refused, whatever its kind (R35). -/
theorem DataFrame.body?_of_not_headerPasses {f : DataFrame} (h : ¬ f.HeaderPasses) : f.body? = none :=
  if_pos (f.headerTest_iff.2 h)

/-- A READ passes without payload (R35). -/
theorem DataFrame.body?_read {f : DataFrame} (h : f.HeaderPasses) (kind : f.kindCode = 1) :
    f.body? = if f.payload = [] then some .read else none := by
  rw [body?, if_neg (mt f.headerTest_iff.1 (not_not_intro h)), kind]
  simp

/-- A WRITE passes with as many payload words as its length (R35). -/
theorem DataFrame.body?_write {f : DataFrame} (h : f.HeaderPasses) (kind : f.kindCode = 2) :
    f.body? = if f.payload.length = f.length.toNat then some (.write f.payload) else none := by
  rw [body?, if_neg (mt f.headerTest_iff.1 (not_not_intro h)), kind]
  rfl

/-- A SWAP with a compare value and a new value passes when its length is one word (R35). -/
theorem DataFrame.body?_swap {f : DataFrame} (h : f.HeaderPasses) (kind : f.kindCode = 3) {x y : Word}
    (payload : f.payload = [x, y]) :
    f.body? = if f.length.toNat = 1 then some (.swap x y) else none := by
  rw [body?, if_neg (mt f.headerTest_iff.1 (not_not_intro h)), kind, payload]
  rfl

/-- A SWAP without exactly two payload words is refused (R35). -/
theorem DataFrame.body?_swap_of_payload {f : DataFrame} (h : f.HeaderPasses) (kind : f.kindCode = 3)
    (payload : f.payload.length ≠ 2) : f.body? = none := by
  rw [body?, if_neg (mt f.headerTest_iff.1 (not_not_intro h)), kind]
  match words : f.payload with
  | [] => rfl
  | [_] => rfl
  | [_, _] => exact absurd (congrArg List.length words) payload
  | _ :: _ :: _ :: _ => rfl

/-- A kind code that is none of READ, WRITE, SWAP is refused (R35). -/
theorem DataFrame.body?_of_kindCode {f : DataFrame} (h : f.HeaderPasses)
    (kind : ¬ (f.kindCode = 1 ∨ f.kindCode = 2 ∨ f.kindCode = 3)) : f.body? = none := by
  obtain ⟨notRead, notWrite, notSwap⟩ : f.kindCode.toNat ≠ 1 ∧ f.kindCode.toNat ≠ 2 ∧ f.kindCode.toNat ≠ 3 := by
    simpa [← BitVec.toNat_inj] using kind
  rw [body?, if_neg (mt f.headerTest_iff.1 (not_not_intro h))]
  split
  next read => exact absurd read notRead
  next write => exact absurd write notWrite
  next swap => exact absurd swap notSwap
  next => rfl

/-- The requests that pass the format check, and the kind and payload each passes with (R35). -/
theorem DataFrame.body?_eq_some_iff {f : DataFrame} {b : ReqBody} :
    f.body? = some b ↔ f.HeaderPasses ∧
      ((f.kindCode = 1 ∧ f.payload = [] ∧ b = .read) ∨
       (f.kindCode = 2 ∧ f.payload.length = f.length.toNat ∧ b = .write f.payload) ∨
       (f.kindCode = 3 ∧ f.length.toNat = 1 ∧ ∃ x y, f.payload = [x, y] ∧ b = .swap x y)) := by
  by_cases header : f.HeaderPasses
  case neg => simp [body?_of_not_headerPasses header, header]
  case pos =>
    by_cases known : f.kindCode = 1 ∨ f.kindCode = 2 ∨ f.kindCode = 3
    case neg =>
      rw [body?_of_kindCode header known]
      simp only [not_or] at known
      simp only [known, false_and, or_false, and_false, reduceCtorEq]
    case pos =>
      rcases known with read | write | swap
      · simp [body?_read header read, header, read, eq_comm (a := b)]
      · simp [body?_write header write, header, write, eq_comm (a := b)]
      · by_cases two : f.payload.length = 2
        · obtain ⟨x, y, payload⟩ := List.length_eq_two.1 two
          simp [body?_swap header swap payload, header, swap, payload, eq_comm (a := b)]
        · have noPair : ∀ x y, f.payload ≠ [x, y] := fun x y payload => two (congrArg List.length payload)
          simp [body?_swap_of_payload header swap two, swap, noPair]

/-- The requests that fail the format check: the conditions of R35, in its order. -/
theorem DataFrame.body?_eq_none_iff {f : DataFrame} :
    f.body? = none ↔
      (f.malformed = true ∨ ¬ (f.kindCode = 1 ∨ f.kindCode = 2 ∨ f.kindCode = 3) ∨ f.length.toNat = 0 ∨ 16 < f.length.toNat ∨
        f.address.toNat % 4 ≠ 0 ∨ (f.kindCode = 3 ∧ f.length.toNat ≠ 1) ∨ (f.kindCode = 1 ∧ f.payload ≠ []) ∨
        (f.kindCode = 2 ∧ f.payload.length ≠ f.length.toNat) ∨ (f.kindCode = 3 ∧ f.payload.length ≠ 2)) := by
  simp only [Option.eq_none_iff_forall_ne_some, ne_eq, body?_eq_some_iff]
  constructor
  case mp =>
    intro fails
    by_contra! ⟨unmarked, known, nonzero, sixteen, aligned, single, empty, words, two⟩
    have header : f.HeaderPasses := ⟨by simpa using unmarked, Nat.pos_of_ne_zero nonzero, sixteen, aligned⟩
    rcases known with read | write | swap
    · exact fails .read ⟨header, .inl ⟨read, empty read, rfl⟩⟩
    · exact fails (.write f.payload) ⟨header, .inr (.inl ⟨write, words write, rfl⟩)⟩
    · obtain ⟨x, y, payload⟩ := List.length_eq_two.1 (two swap)
      exact fails (.swap x y) ⟨header, .inr (.inr ⟨swap, single swap, x, y, payload, rfl⟩)⟩
  case mpr =>
    rintro fails b ⟨⟨unmarked, one, sixteen, aligned⟩, fits⟩
    have nonzero : f.length.toNat ≠ 0 := Nat.ne_of_gt one
    rcases fits with ⟨kind, empty, -⟩ | ⟨kind, words, -⟩ | ⟨kind, single, x, y, payload, -⟩
    · simp [unmarked, kind, nonzero, sixteen.not_gt, aligned, empty] at fails
    · simp [unmarked, kind, nonzero, sixteen.not_gt, aligned, words] at fails
    · simp [unmarked, kind, single, aligned, payload] at fails

end Sys2Proof

namespace Sys2Proof.Machine

/-! ## Admission as far as a refusal -/

/-- Leaving STOP keeps the tag set (R141). -/
@[simp] theorem State.leaveStop_tags (s : State) (c : ModeCause) : (s.leaveStop c).tags = s.tags := by
  simp [State.leaveStop]

/-- A data request that is received with credit is offered to admission (R31, R175). -/
theorem exec_dataRequest_received {s : State} (f : DataFrame) (listening : s.resetn = false) (credit : 0 < s.li.dataCredit) :
    exec (.dataRequest f) s = .next ((s.receivedData f).admitRequest f) :=
  congrArg Host.Outcome.next (State.receiveRequest_data s f _ listening credit)

/-- In RUN, a request that fails a check is answered with its refusal, and nothing follows from it (R32, R37). -/
theorem State.admitRequest_run_refused {s : State} {f : DataFrame} {r : Reason} (run : s.mc.mode = .run)
    (fails : s.admission f = .error r) : s.admitRequest f = s.responded (refusal f.requester f.tag .data r true) := by
  simp only [State.admitRequest, run, State.admitInRun, State.bindOrRefuse, fails]
  rfl

/-- In STOP with wake-on-request, the wake stands when the request that causes it fails a check: the mode change gives the ports something
to do in the same event (R32, R37, R141). -/
theorem State.admitRequest_wake_refused {s : State} {f : DataFrame} {r : Reason} (stop : s.mc.mode = .stop)
    (wakes : s.mc.wakeOnRequest = true) (fails : (s.leaveStop .wake).admission f = .error r) :
    s.admitRequest f = ((s.leaveStop .wake).responded (refusal f.requester f.tag .data r true)).followUp := by
  simp only [State.admitRequest, stop, wakes, if_true, State.bindOrRefuse, fails]
  rfl

/-- With a fresh pair, the format check is the first that can fail (R31, R34, R35). -/
theorem State.admission_format {s : State} {f : DataFrame} (fresh : f.pair ∉ s.tags) (bad : f.body? = none) :
    s.admission f = .error .format := by
  simp [State.admission, fresh, bad]

/-- Settles O16: the table of the requests that pass decides the check, and a request that fails it is refused after the mode check. -/
theorem formatCheck : Obligations.FormatCheck := by
  refine ⟨fun f => DataFrame.body?_eq_none_iff, ?run, ?wake, ?passes⟩
  case run =>
    intro f s listening credit run fresh bad
    rw [exec_dataRequest_received f listening credit,
      State.admitRequest_run_refused (s := s.receivedData f) run (State.admission_format fresh bad)]
  case wake =>
    intro f s listening credit stop wakes fresh bad
    have fails : ((s.receivedData f).leaveStop .wake).admission f = .error .format :=
      State.admission_format (by simpa using fresh) bad
    rw [exec_dataRequest_received f listening credit, State.admitRequest_wake_refused (s := s.receivedData f) stop wakes fails]
  case passes =>
    intro f b passes
    obtain ⟨⟨-, one, sixteen, aligned⟩, fits⟩ := DataFrame.body?_eq_some_iff.1 passes
    refine ⟨aligned, one, sixteen, ?_⟩
    rcases fits with ⟨-, -, rfl⟩ | ⟨-, words, rfl⟩ | ⟨-, single, x, y, payload, rfl⟩
    · exact .inl rfl
    · exact .inr (.inl ⟨rfl, words⟩)
    · exact .inr (.inr ⟨x, y, rfl, payload, single⟩)

end Sys2Proof.Machine
end

section
/-! PROOFS. CHANNEL CLEAR (R127): a channel command on the channel its word names, and what the clear leaves of a FAULTED channel. -/

namespace Sys2Proof.Machine

/-- A channel command whose index names no channel is refused BAD_INDEX (R126 to R128, R132). -/
theorem onChannel_badIndex {f : MgmtFrame} {s : State} (act : ChannelId → State × Answer)
    (names : 2 ≤ (field (f.word 0) 0 8).toNat) : onChannel f s act = (s, .refused .badIndex) := by
  rw [onChannel, indexBelow_none names]
  rfl

/-- A channel command whose word holds a channel and nothing else acts on that channel (12.3). -/
theorem onChannel_channel {f : MgmtFrame} {s : State} {c : ChannelId} (act : ChannelId → State × Answer)
    (names : f.word 0 = BitVec.ofNat 32 c.val) : onChannel f s act = act c := by
  obtain ⟨index, only⟩ := index_word (by decide) c names
  simp only [onChannel, index, only, if_true]

/-- CHANNEL CLEAR leaves a FAULTED channel as it is after power-on, and answers OK (R111, R127). -/
theorem channelClearAct_faulted {f : MgmtFrame} {s : State} {c : ChannelId} (names : f.word 0 = BitVec.ofNat 32 c.val)
    (faulted : (s.channel c).state = .faulted) : channelClearAct f s = (s.setChannel c .initial, .ok []) := by
  rw [channelClearAct, onChannel_channel _ names, if_pos faulted]

/-- CHANNEL CLEAR of a channel that is not FAULTED is refused STATE and changes nothing (R127). -/
theorem channelClearAct_not_faulted {f : MgmtFrame} {s : State} {c : ChannelId} (names : f.word 0 = BitVec.ofNat 32 c.val)
    (other : (s.channel c).state ≠ .faulted) : channelClearAct f s = (s, .refused .state) := by
  rw [channelClearAct, onChannel_channel _ names, if_neg other]
  rfl

/-- An accepted CHANNEL CLEAR that the Copy Engine refuses changes nothing but for the answer (R160, R163). -/
theorem exec_channelClear_refused {s : State} {f : MgmtFrame} {r : Reason} (h : CommandAccepted s f 1)
    (act : channelClearAct f (s.answerDeferred f .channelClear) = (s.answerDeferred f .channelClear, .refused r)) :
    exec (.channelClear f) s = .next (s.answeredRefused f .channelClear r) :=
  congrArg Host.Outcome.next (State.manage_refused s .channelClear 1 f channelClearAct r h act)

/-- An accepted CHANNEL CLEAR of a FAULTED channel is answered OK, and nothing follows from it: of the state only that channel changes
(R127, R160). -/
theorem exec_channelClear_faulted {s : State} {f : MgmtFrame} {c : ChannelId} (h : CommandAccepted s f 1)
    (names : f.word 0 = BitVec.ofNat 32 c.val) (faulted : (s.channel c).state = .faulted) :
    exec (.channelClear f) s = .next ((s.answeredOk f .channelClear []).setChannel c .initial) :=
  congrArg Host.Outcome.next
    (State.manage_ok s ((s.answerDeferred f .channelClear).setChannel c .initial) .channelClear 1 f channelClearAct [] h
      (channelClearAct_faulted names (by simpa using faulted)) rfl)

/-- Settles O45: the word of the command names no channel, a FAULTED one, or one in another state. -/
theorem channelClear : Obligations.ChannelClear := by
  intro f s accepted
  refine ⟨fun noChannel => ?_, fun c names => ⟨fun faulted => ?_, fun other => ?_⟩⟩
  · exact exec_channelClear_refused accepted (onChannel_badIndex _ noChannel)
  · exact exec_channelClear_faulted accepted names faulted
  · exact exec_channelClear_refused accepted (channelClearAct_not_faulted names (by simpa using other))

end Sys2Proof.Machine
end

section
/-! PROOFS. IDENT READ (R168): the identity words fixed in the part, answered with nothing changed. -/

namespace Sys2Proof.Machine

/-- IDENT READ reads the fixed identity words and leaves the state as it is (R168). -/
theorem identReadAct_reads (f : MgmtFrame) (s : State) : identReadAct f s = (s, .ok [0x4D473104, 1]) := by
  rw [identReadAct, unchanged, Config.identWord, Config.revisionWord]

/-- Settles O28: IDENT READ is a command that only reads, and what it reads is the identity of R168. -/
theorem identRead : Obligations.IdentRead := by
  intro f s accepted
  exact congrArg Host.Outcome.next
    (State.manage_read s .identRead 0 f identReadAct _ accepted (identReadAct_reads f (s.answerDeferred f .identRead)))

end Sys2Proof.Machine
end

section
/-! PROOFS. What one step can do, said once: the changes that no invariant speaks of, the changes of one block that the invariants do
speak of, and the events that are made of both. Every invariant follows from these cases. -/

namespace Sys2Proof.Machine

/-! ## Changes of a port -/

/-- A port changes without a SWAP lock being taken or released and without a reset pulse beginning or ending; slots and free-slot order
stay in agreement (R78, R85, R93). -/
structure PortMove (q r : Port) : Prop where
  lock : r.lock = q.lock
  pulse : r.pulse.map Pulse.answerTo = q.pulse.map Pulse.answerTo
  resetting : r.state ≠ .resetting → q.state ≠ .resetting
  slots : SlotLaw q → SlotLaw r

theorem PortMove.refl (q : Port) : PortMove q q := ⟨rfl, rfl, id, id⟩

theorem PortMove.trans {q r u : Port} (h : PortMove q r) (g : PortMove r u) : PortMove q u :=
  ⟨g.lock.trans h.lock, g.pulse.trans h.pulse, h.resetting ∘ g.resetting, g.slots ∘ h.slots⟩

/-- Some slot is ISSUED exactly when one of the four is (R80). -/
theorem Port.anyIssued_iff (q : Port) : q.anyIssued = true ↔ ∃ k, (q.slot k).isIssued = true := by
  simp only [Port.anyIssued, Bool.or_eq_true]
  constructor
  · rintro (((h | h) | h) | h) <;> exact ⟨_, h⟩
  · rintro ⟨k, h⟩
    fin_cases k <;> simp_all

theorem Port.anyIssued_eq_false_iff (q : Port) : q.anyIssued = false ↔ ∀ k, (q.slot k).isIssued = false := by
  rw [← Bool.not_eq_true, Port.anyIssued_iff]
  simp

/-- The law of the slots looks at a port's slots, its free-slot order and its state alone (R78, R80). -/
theorem SlotLaw.of_eq {q r : Port} (slots : r.slots = q.slots) (order : r.freeOrder = q.freeOrder)
    (rest : r.state = .held ∨ r.state = .stopped → (q.state = .held ∨ q.state = .stopped ∨ q.state = .resetting) ∨ q.anyIssued = false)
    (resetting : r.state = .resetting → q.state = .resetting) (h : SlotLaw q) : SlotLaw r := by
  have hs : ∀ k, r.slot k = q.slot k := fun k => by rw [Port.slot, slots, Port.slot]
  have ha : r.anyIssued = q.anyIssued := by simp only [Port.anyIssued, hs]
  refine ⟨order ▸ h.once, fun k => by rw [order, hs, h.exact], fun hr => ?_, fun hr k => ?_⟩
  · rw [ha]
    rcases hr with hr | hr | hr
    · rcases rest (.inl hr) with g | g
      · exact h.resting g
      · exact g
    · rcases rest (.inr hr) with g | g
      · exact h.resting g
      · exact g
    · exact h.resting (.inr (.inr (resetting hr)))
  · rw [hs]
    exact h.resetting (resetting hr) k

/-- A change that leaves the slots of a port alone (R78). -/
theorem PortMove.of_slots {q r : Port} (slots : r.slots = q.slots) (order : r.freeOrder = q.freeOrder) (lock : r.lock = q.lock)
    (pulse : r.pulse = q.pulse)
    (rest : r.state = .held ∨ r.state = .stopped → (q.state = .held ∨ q.state = .stopped ∨ q.state = .resetting) ∨ q.anyIssued = false)
    (resetting : r.state = .resetting ↔ q.state = .resetting) : PortMove q r :=
  ⟨lock, by rw [pulse], fun h => mt resetting.2 h, SlotLaw.of_eq slots order rest resetting.1⟩

/-- A change that leaves the slots and the state of a port alone. -/
theorem PortMove.of_state {q r : Port} (slots : r.slots = q.slots) (order : r.freeOrder = q.freeOrder) (lock : r.lock = q.lock)
    (pulse : r.pulse = q.pulse) (state : r.state = q.state) : PortMove q r :=
  .of_slots slots order lock pulse (fun h => .inl (by rw [state] at h; tauto)) (by rw [state])

/-- A port that leaves rest, or goes from one state outside it to another. -/
theorem PortMove.of_busy {q r : Port} (slots : r.slots = q.slots) (order : r.freeOrder = q.freeOrder) (lock : r.lock = q.lock)
    (pulse : r.pulse = q.pulse) (before : q.state ≠ .resetting)
    (after : r.state ≠ .resetting ∧ r.state ≠ .held ∧ r.state ≠ .stopped) : PortMove q r :=
  .of_slots slots order lock pulse (fun h => by tauto) (iff_of_false after.1 before)

/-- A port comes to rest in HELD or STOPPED with no slot ISSUED (R88, R91). -/
theorem PortMove.of_rest {q r : Port} (slots : r.slots = q.slots) (order : r.freeOrder = q.freeOrder) (lock : r.lock = q.lock)
    (pulse : r.pulse = q.pulse) (before : q.state ≠ .resetting) (after : r.state ≠ .resetting)
    (idle : (q.state = .held ∨ q.state = .stopped) ∨ q.anyIssued = false) : PortMove q r :=
  .of_slots slots order lock pulse (fun _ => by tauto) (iff_of_false after before)

/-- What the slots read as after one of them has been replaced. -/
theorem Port.slot_of_set {q r : Port} {k : SlotId} {sl : Slot} (h : r.slots = q.slots.set k sl) (j : SlotId) :
    r.slot j = if k = j then sl else q.slot j := by
  simp [Port.slot, h, Vector.getElem_set, Fin.ext_iff]

/-- A slot that is not free is freed (R78). -/
theorem SlotLaw.free {q : Port} {k : SlotId} (occupied : q.slot k ≠ .free) (h : SlotLaw q) : SlotLaw (q.freeSlot k) := by
  have hs := Port.slot_of_set (r := q.freeSlot k) rfl
  have fresh : k ∉ q.freeOrder := fun hk => occupied ((h.exact k).1 hk)
  refine ⟨?_, fun j => ?_, fun hr => ?_, fun hr => absurd (h.resetting hr k) occupied⟩
  · exact List.nodup_append.2 ⟨h.once, List.nodup_singleton k, fun a ha b hb e => fresh ((List.mem_singleton.1 hb) ▸ e ▸ ha)⟩
  · rw [hs]
    by_cases hj : k = j
    · simp [Port.freeSlot, hj]
    · simp [Port.freeSlot, hj, h.exact, Ne.symm hj]
  · have := (Port.anyIssued_eq_false_iff q).1 (h.resting hr)
    refine (Port.anyIssued_eq_false_iff _).2 fun j => ?_
    rw [hs]
    split
    · rfl
    · exact this j

theorem PortMove.freeSlot {q : Port} {k : SlotId} (occupied : q.slot k ≠ .free) : PortMove q (q.freeSlot k) :=
  ⟨rfl, rfl, id, SlotLaw.free occupied⟩

/-- The head of the free-slot order of a port outside rest is issued (R78). -/
theorem SlotLaw.issue {q : Port} {k : SlotId} {ks : List SlotId} (h : Holder) (cmd : AccessCommand) (order : q.freeOrder = k :: ks)
    (active : q.state = .active) (law : SlotLaw q) : SlotLaw (q.issueIn k h cmd) := by
  have hs := Port.slot_of_set (r := q.issueIn k h cmd) rfl
  have ho : (q.issueIn k h cmd).freeOrder = ks := by simp [Port.issueIn, order]
  have hst : (q.issueIn k h cmd).state = .active := active
  have nd : (k :: ks).Nodup := order ▸ law.once
  refine ⟨ho ▸ nd.of_cons, fun j => ?_, fun hr => by simp [hst] at hr, fun hr => by simp [hst] at hr⟩
  rw [hs, ho]
  by_cases hj : k = j
  · subst hj
    simp [(List.nodup_cons.1 nd).1]
  · have := law.exact j
    simp only [order, List.mem_cons, Ne.symm hj, false_or] at this
    simp [hj, this]

theorem PortMove.issueIn {q : Port} {k : SlotId} {ks : List SlotId} (h : Holder) (cmd : AccessCommand) (order : q.freeOrder = k :: ks)
    (active : q.state = .active) : PortMove q (q.issueIn k h cmd) :=
  ⟨rfl, rfl, id, SlotLaw.issue h cmd order active⟩

/-- An ISSUED slot is ISSUED again or lingers (R66, R79). -/
theorem SlotLaw.reissue {q r : Port} {k : SlotId} {sl : Slot} (issued : (q.slot k).isIssued = true) (kept : sl ≠ .free)
    (slots : r.slots = q.slots.set k sl) (order : r.freeOrder = q.freeOrder) (state : r.state = q.state) (law : SlotLaw q) :
    SlotLaw r := by
  have hs := Port.slot_of_set slots
  have busy : ¬ (q.state = .held ∨ q.state = .stopped ∨ q.state = .resetting) := fun hr => by
    have := (Port.anyIssued_eq_false_iff q).1 (law.resting hr) k
    simp [issued] at this
  have taken : q.slot k ≠ .free := fun h => by simp [h, Slot.isIssued] at issued
  refine ⟨order ▸ law.once, fun j => ?_, fun hr => absurd (state ▸ hr) busy, fun hr => absurd (.inr (.inr (state ▸ hr))) busy⟩
  rw [hs, order, law.exact]
  by_cases hj : k = j
  · subst hj
    simp [kept, taken]
  · simp [hj]

theorem PortMove.reissue {q r : Port} {k : SlotId} {sl : Slot} (issued : (q.slot k).isIssued = true) (kept : sl ≠ .free)
    (slots : r.slots = q.slots.set k sl) (order : r.freeOrder = q.freeOrder) (state : r.state = q.state) (lock : r.lock = q.lock)
    (pulse : r.pulse = q.pulse) : PortMove q r :=
  ⟨lock, by rw [pulse], by rw [state]; exact id, SlotLaw.reissue issued kept slots order state⟩

/-- The slots and free-slot order of a port that has just been cleared agree (R81, R92). -/
theorem SlotLaw.cleared {q : Port} (slots : q.slots = #v[.free, .free, .free, .free]) (order : q.freeOrder = [0, 1, 2, 3]) :
    SlotLaw q := by
  have hs : ∀ k, q.slot k = .free := fun k => by
    rw [Port.slot, slots]
    fin_cases k <;> rfl
  refine ⟨order ▸ by decide, fun k => ?_, fun _ => (Port.anyIssued_eq_false_iff q).2 fun k => by rw [hs]; rfl, fun _ => hs⟩
  rw [order, hs]
  fin_cases k <;> decide

/-! ## The named changes of a port -/

theorem PortMove.takeHold {q : Port} (active : q.state = .active) : PortMove q q.takeHold :=
  .of_busy rfl rfl rfl rfl (by simp [active]) (by simp [Port.takeHold])

theorem PortMove.becomeHeld {q : Port} (settling : q.state ≠ .resetting) (idle : q.anyIssued = false) : PortMove q q.becomeHeld :=
  .of_rest rfl rfl rfl rfl settling (by simp [Port.becomeHeld, Port.enterHeld]) (.inr idle)

/-- A port that becomes STOPPED is STOPPED, or HELD under a hold request; its slots, SWAP lock and pulse stay (R90, R91). -/
theorem Port.enterStopped_keeps (q : Port) :
    (q.enterStopped.state = .stopped ∨ q.enterStopped.state = .held) ∧ q.enterStopped.slots = q.slots ∧
    q.enterStopped.freeOrder = q.freeOrder ∧ q.enterStopped.lock = q.lock ∧ q.enterStopped.pulse = q.pulse := by
  simp only [Port.enterStopped]
  split
  · exact ⟨.inr rfl, rfl, rfl, rfl, rfl⟩
  · exact ⟨.inl rfl, rfl, rfl, rfl, rfl⟩

theorem PortMove.enterStopped {q : Port} (before : q.state ≠ .resetting) (idle : q.anyIssued = false) : PortMove q q.enterStopped := by
  obtain ⟨state, slots, order, lock, pulse⟩ := q.enterStopped_keeps
  exact .of_rest slots order lock pulse before (by rcases state with h | h <;> simp [h]) (.inr idle)

theorem PortMove.modeEntersStop (q : Port) : PortMove q q.modeEntersStop := by
  unfold Port.modeEntersStop
  split
  next active =>
    split
    · exact .of_busy rfl rfl rfl rfl (by simp [active]) (by simp)
    · exact .enterStopped (by simp [active]) (Bool.not_eq_true _ ▸ ‹¬ q.anyIssued = true›)
  next => exact .refl q

theorem PortMove.modeLeavesStop (q : Port) : PortMove q q.modeLeavesStop := by
  unfold Port.modeLeavesStop
  split
  next settling => exact .of_busy rfl rfl rfl rfl (by simp [settling]) (by simp)
  next stopped => exact .of_busy rfl rfl rfl rfl (by simp [stopped]) (by simp)
  next => exact .refl q

theorem PortMove.settle (q : Port) : PortMove q q.settle := by
  unfold Port.settle
  split
  next settling =>
    split
    · exact .refl q
    · exact .becomeHeld (by simp [settling]) (Bool.not_eq_true _ ▸ ‹¬ q.anyIssued = true›)
  next settling =>
    split
    · exact .refl q
    · exact .enterStopped (by simp [settling]) (Bool.not_eq_true _ ▸ ‹¬ q.anyIssued = true›)
  next => exact .refl q

theorem PortMove.issueUpkeep {q : Port} {k : SlotId} {ks : List SlotId} (order : q.freeOrder = k :: ks) (active : q.state = .active) :
    PortMove q (q.issueUpkeep k) :=
  (PortMove.issueIn _ _ order active).trans (.of_state rfl rfl rfl rfl rfl)

theorem PortMove.turnAfterCopy (q : Port) (pacing : Pacing) : PortMove q (q.turnAfterCopy pacing) := by
  unfold Port.turnAfterCopy
  split
  · exact .refl q
  · exact .of_state rfl rfl rfl rfl rfl

theorem PortMove.upkeepExpiry (q : Port) : PortMove q q.upkeepExpiry := by
  unfold Port.upkeepExpiry
  split
  · exact .of_state rfl rfl rfl rfl rfl
  · split <;> exact .of_state rfl rfl rfl rfl rfl

theorem PortMove.holdAsserted (q : Port) : PortMove q q.holdAsserted := by
  unfold Port.holdAsserted
  split
  next stopped =>
    exact .of_rest rfl rfl rfl rfl (by simp [stopped])
      (by simp [Port.stoppedToHeld, Port.enterHeld, Port.startInterval]) (.inl (.inr stopped))
  next => exact .of_state rfl rfl rfl rfl rfl

theorem PortMove.holdDeasserted (q : Port) (modeStop : Bool) : PortMove q (q.holdDeasserted modeStop) := by
  unfold Port.holdDeasserted
  split
  next held =>
    split
    · exact .of_rest rfl rfl rfl rfl (by simp [held]) (by simp [Port.haltInterval]) (.inl (.inl held))
    · exact .of_busy rfl rfl rfl rfl (by simp [held]) (by simp)
  next settling =>
    exact .of_busy rfl rfl rfl rfl (by simp [settling]) (by cases modeStop <;> simp)
  next => exact .of_state rfl rfl rfl rfl rfl

theorem PortMove.enable {q : Port} (disabled : q.state = .disabled) (modeStop : Bool) : PortMove q (q.enable modeStop) := by
  have state : (q.enable modeStop).state ≠ .resetting := by
    simp only [Port.enable]
    split
    · simp [Port.enterHeld, Port.startInterval]
    · split <;> simp [Port.startInterval]
  have slots : (q.enable modeStop).slots = #v[.free, .free, .free, .free] ∧ (q.enable modeStop).freeOrder = [0, 1, 2, 3] ∧
      (q.enable modeStop).lock = q.lock ∧ (q.enable modeStop).pulse = q.pulse := by
    simp only [Port.enable]
    split
    · exact ⟨rfl, rfl, rfl, rfl⟩
    · split <;> exact ⟨rfl, rfl, rfl, rfl⟩
  exact ⟨slots.2.2.1, by rw [slots.2.2.2], fun _ => by simp [disabled], fun _ => .cleared slots.1 slots.2.1⟩

theorem PortMove.disable {q : Port} (before : q.state ≠ .resetting) : PortMove q q.disable :=
  .of_busy rfl rfl rfl rfl before (by simp [Port.disable])

theorem PortMove.configure (q : Port) (c : PortConfig) : PortMove q (q.configure c) := .of_state rfl rfl rfl rfl rfl

/-- 1 µs leaves free slots free and ISSUED ones ISSUED (R78). -/
theorem Slot.tick_kind (sl : Slot) : (sl.tick = .free ↔ sl = .free) ∧ sl.tick.isIssued = sl.isIssued := by
  cases sl <;> simp [Slot.tick, Slot.isIssued]

theorem SlotLaw.tick {q : Port} (law : SlotLaw q) : SlotLaw q.tick := by
  have idle : q.tick.anyIssued = q.anyIssued := by simp only [Port.anyIssued, Port.slot_tick, (Slot.tick_kind _).2]
  refine ⟨law.once, fun k => ?_, fun hr => idle ▸ law.resting hr, fun hr k => ?_⟩
  · rw [Port.slot_tick, (Slot.tick_kind _).1]
    exact law.exact k
  · rw [Port.slot_tick, (Slot.tick_kind _).1]
    exact law.resetting hr k

theorem PortMove.tick (q : Port) : PortMove q q.tick :=
  ⟨rfl, by simp [Port.tick, Function.comp_def], id, SlotLaw.tick⟩

end Sys2Proof.Machine
end

section
/-! PROOFS. The atoms of a step: the changes that no invariant speaks of, and the changes of one block. -/

namespace Sys2Proof.Machine

/-- Two Link Interfaces with the same credit, RESPONSE records and frame in transmission; the counters, the timer and the bytes left of the
frame may differ (R175, R177, R178). -/
structure LinkSame (l m : LinkInterface) : Prop where
  dataCredit : m.dataCredit = l.dataCredit
  mgmtCredit : m.mgmtCredit = l.mgmtCredit
  creditPending : m.creditPending = l.creditPending
  responses : m.responses = l.responses
  transmission : m.transmission.map (fun x => (x.frame, x.effective)) = l.transmission.map fun x => (x.frame, x.effective)

theorem LinkSame.refl (l : LinkInterface) : LinkSame l l := ⟨rfl, rfl, rfl, rfl, rfl⟩

/-- What a deferred window operation is but for its timer (R21). -/
def DeferredOp.key (d : DeferredOp) : WindowIdx × Pair := (d.index, d.requester, d.tag)

/-- A change that no invariant speaks of: settings, timers, counters, hit counts, reports, notices that keep to their bounds, and moves of
ports. -/
structure Neutral (s t : State) : Prop where
  pending : t.pending = s.pending
  windows : ∀ i, ∃ n, t.window i = { s.window i with hitCount := n }
  deferred : t.deferred.map DeferredOp.key = s.deferred.map DeferredOp.key
  requestQueue : t.requestQueue = s.requestQueue
  tags : t.tags = s.tags
  tracking : t.tracking = s.tracking
  mgmtQueue : t.mgmtQueue = s.mgmtQueue
  ports : ∀ p, PortMove (s.port p) (t.port p)
  mode : t.mc.mode = s.mc.mode
  nu : NoticeLaw s.nu → NoticeLaw t.nu
  li : LinkSame s.li t.li
  finished : t.boot.phase = .finished ↔ s.boot.phase = .finished
  reads : t.boot.inFlight ≠ none → s.boot.inFlight ≠ none ∨ s.mc.mode = .booting

/-- What identifies a tracking entry to the other blocks: everything but its slot, its SWAP phase and its retries (R51). -/
def TrackEntry.key (e : TrackEntry) : TrackIdx × Pair × WindowIdx × PortId × Bool :=
  (e.index, (e.requester, e.tag), e.window, e.port, e.posted)

/-- The end of a tracking entry, but for the dispatch that follows it (R71). -/
def State.entryEnded (s : State) (e : TrackEntry) (x : EntryEnd) : State :=
  let t := (s.answerEntry e x).updPort e.port fun q => (q.releaseFrom e).unlock e.index
  let u := t.dropEntry e.index
  (u.setWindow e.window (u.window e.window).release).installPending.reportTracking

/-- The end of an entry is that of its record, its slot and its use, and then dispatch (R71). -/
theorem State.endEntry_eq (s : State) (e : TrackEntry) (x : EntryEnd) : s.endEntry e x = (s.entryEnded e x).dispatchAll := rfl

/-- A REQUEST has been charged against its pool (R175). -/
def State.charged (s : State) (pool : Pool) : State := { s with li := s.li.setCredit pool (s.li.credit pool - 1) }

/-- The boot is under way: it has not finished, or a read is in flight (R183). -/
def BootReader.underWay (b : BootReader) : Prop := b.phase ≠ .finished ∨ b.inFlight ≠ none

/-- The changes of one block that the invariants speak of, and those that they do not. -/
inductive Atom : State → State → Prop
  | neutral {s t : State} (h : Neutral s t) : Atom s t
  | mode {s : State} (m : Mode) (before : s.mc.mode ≠ .booting) (after : m ≠ .booting) :
      Atom s { s with mc := { s.mc with mode := m } }
  | entry {s : State} (i : TrackIdx) (f : TrackEntry → TrackEntry) (keeps : ∀ e, (f e).key = e.key) : Atom s (s.updEntry i f)
  | lock {s : State} (p : PortId) (i : TrackIdx)
      (own : (∃ e ∈ s.tracking, e.index = i ∧ e.port = p) ∨ (s.port p).lock = some i) :
      Atom s (s.updPort p fun q => { q with lock := some i })
  | dispatch {s : State} {e : QueueEntry} {i : TrackIdx} (oldest : s.oldestDispatchable = some e) (free : s.freeIndex? = some i) :
      Atom s (s.dispatchEntry e i)
  | entryEnded {s : State} {e : TrackEntry} (x : EntryEnd) (tracked : e ∈ s.tracking) : Atom s (s.entryEnded e x)
  | install {s : State} {d : DeferredOp} {change : PendingChange} (due : s.installDue = some (d, change)) :
      Atom s (s.installFor d change)
  | revert {s : State} {d : DeferredOp} (deferred : s.deferred = some d) (draining : (s.window d.index).state = .draining) :
      Atom s (s.revertDrain d)
  | load {s : State} {i : WindowIdx} {c : Contents} (owned : s.tags ≠ []) (free : (s.window i).state = .free)
      (apart : s.overlaps c none = false) : Atom s (s.setWindow i (.loaded c))
  | replace {s : State} {i : WindowIdx} {c : Contents} (live : (s.window i).state = .live) (unused : (s.window i).useCount = 0)
      (none : s.deferred = none) (apart : s.overlaps c (some i) = false) : Atom s (s.installNow i c)
  | close {s : State} {i : WindowIdx} (live : (s.window i).state = .live) (unused : (s.window i).useCount = 0)
      (none : s.deferred = none) : Atom s (s.closeNow i)
  | refuse {s : State} (r : Response) (credit : 0 < s.li.credit r.pool) (marked : r.refusalMark = true) :
      Atom s ((s.charged r.pool).respond r)
  | bind {s : State} (f : DataFrame) (b : ReqBody) {i : WindowIdx} (credit : 0 < s.li.dataCredit) (fresh : f.pair ∉ s.tags)
      (inUse : (s.window i).state ≠ .free) : Atom s ((s.charged .data).bind f b i)
  | takeCredit {s : State} (choice : s.transmitChoice = some .credit) :
      Atom s { s with li := { s.li.take .credit with creditPending := false } }
  | takeNotice {s : State} {n : NoticeRecord} {rest : List NoticeRecord} (choice : s.transmitChoice = some .notice)
      (queue : s.nu.queue = n :: rest) :
      Atom s { s with li := s.li.take (.notice n s.nu.lost), nu := { s.nu with queue := rest, lost := 0, run := 0 } }
  | takeResponse {s : State} {r : Response} {rest : List Response} (choice : s.transmitChoice = some .response)
      (queue : s.li.responses = r :: rest) :
      Atom s { s with li := { s.li.take (.response r) with responses := rest }, nu := s.nu.countResponse }
  | responseSent {s : State} {r : Response} {b : Nat} (sent : s.li.transmission = some ⟨.response r, true, b⟩) :
      Atom s (State.responseSent { s with li := s.li.sent } r)
  | creditSent {s : State} {b : Nat} (sent : s.li.transmission = some ⟨.credit, true, b⟩) :
      Atom s { s with li := { s.li.sent with dataCredit := Config.dataPool, mgmtCredit := Config.managementPool } }
  | sent {s : State} (response : ∀ r b, s.li.transmission ≠ some ⟨.response r, true, b⟩)
      (credit : ∀ b, s.li.transmission ≠ some ⟨.credit, true, b⟩) : Atom s { s with li := s.li.sent }
  | bootFinishes {s : State} (r : BootResult) (booting : s.boot.underWay) : Atom s (s.finishBoot r)
  | bootLoads {s : State} (im : BootImage) (booting : s.boot.underWay) (distinct : windowsDistinct im.windows = true) :
      Atom s ((s.applyImage im).finishBoot .loaded)
  | pulseEnds {s : State} {p : PortId} {u : Pulse} (modeStop : Bool) (resetting : (s.port p).state = .resetting)
      (pulse : (s.port p).pulse = some u) : Atom s ((s.updPort p fun q => q.endPulse modeStop).answerPulse u.answerTo)

/-- A run of atoms. -/
def Atoms (s t : State) : Prop := Relation.ReflTransGen Atom s t

theorem Atoms.refl {s : State} : Atoms s s := Relation.ReflTransGen.refl

theorem Atoms.trans {s t u : State} (h : Atoms s t) (g : Atoms t u) : Atoms s u := Relation.ReflTransGen.trans h g

theorem Atom.one {s t : State} (h : Atom s t) : Atoms s t := Relation.ReflTransGen.single h

theorem Atoms.tail {s t u : State} (h : Atoms s t) (g : Atom t u) : Atoms s u := h.trans g.one

/-! ## Two changes of one port -/

theorem State.updPort_congr {s : State} {p : PortId} {f g : Port → Port} (h : f (s.port p) = g (s.port p)) :
    s.updPort p f = s.updPort p g := by
  rw [State.updPort_eq h]
  rfl

theorem State.updPort_updPort (s : State) (p : PortId) (f g : Port → Port) :
    (s.updPort p f).updPort p g = s.updPort p fun q => g (f q) := by
  simp [State.updPort]

/-! ## Neutral changes, by the field that changes -/

theorem Neutral.refl (s : State) : Neutral s s :=
  ⟨rfl, fun _ => ⟨_, rfl⟩, rfl, rfl, rfl, rfl, rfl, fun _ => .refl _, rfl, id, .refl _, Iff.rfl, .inl⟩

theorem Atoms.setResetn (s : State) (b : Bool) : Atoms s { s with resetn := b } := Atom.one (.neutral { Neutral.refl s with })

theorem Atoms.setNu (s : State) (u : NoticeUnit) (h : NoticeLaw s.nu → NoticeLaw u) : Atoms s { s with nu := u } :=
  Atom.one (.neutral { Neutral.refl s with nu := h })

theorem Atoms.setMc (s : State) (m : ModeController) (h : m.mode = s.mc.mode) : Atoms s { s with mc := m } :=
  Atom.one (.neutral { Neutral.refl s with mode := h })

theorem Atoms.setLi (s : State) (l : LinkInterface) (h : LinkSame s.li l) : Atoms s { s with li := l } :=
  Atom.one (.neutral { Neutral.refl s with li := h })

theorem Atoms.setChannels (s : State) (v : Vector Channel 2) : Atoms s { s with channels := v } :=
  Atom.one (.neutral { Neutral.refl s with })

theorem Atoms.setEngine (s : State) (b : Bool) : Atoms s { s with engineEnable := b } := Atom.one (.neutral { Neutral.refl s with })

theorem Atoms.setManagers (s : State) (b : BitVec 8) : Atoms s { s with managers := b } := Atom.one (.neutral { Neutral.refl s with })

theorem Atoms.setBoot (s : State) (b : BootReader) (finished : b.phase = .finished ↔ s.boot.phase = .finished)
    (reads : b.inFlight ≠ none → s.boot.inFlight ≠ none ∨ s.mc.mode = .booting) : Atoms s { s with boot := b } :=
  Atom.one (.neutral { Neutral.refl s with finished := finished, reads := reads })

theorem Atoms.updPort (s : State) (p : PortId) (f : Port → Port) (h : PortMove (s.port p) (f (s.port p))) : Atoms s (s.updPort p f) :=
  Atom.one (.neutral { Neutral.refl s with
    ports := fun q => by
      rw [State.port_updPort]
      split
      · exact ‹p = q› ▸ h
      · exact .refl _ })

theorem Atoms.mapPorts (s : State) (f : Port → Port) (h : ∀ q, PortMove q (f q)) : Atoms s (s.mapPorts f) :=
  Atom.one (.neutral { Neutral.refl s with
    ports := fun q => by
      rw [State.port_mapPorts]
      exact h _ })

/-! ## Notices -/

/-- Kind and subject are the same (R149). -/
theorem Notice.sameIdentity_iff (a b : Notice) : a.sameIdentity b = true ↔ a.kindCode = b.kindCode ∧ a.subject = b.subject := by
  simp [Notice.sameIdentity]

/-- A merge keeps the identity of its record (R151). -/
theorem NoticeRecord.merge_identity {r : NoticeRecord} {n : Notice} (h : r.notice.sameIdentity n = true) (m : Notice) :
    (r.merge n).notice.sameIdentity m = r.notice.sameIdentity m ∧ m.sameIdentity (r.merge n).notice = m.sameIdentity r.notice := by
  obtain ⟨kind, subject⟩ := (Notice.sameIdentity_iff _ _).1 h
  simp [NoticeRecord.merge, Notice.sameIdentity, kind, subject]

/-- A raised notice keeps the notice queue to its bounds (R150, R151). -/
theorem NoticeLaw.raise {u : NoticeUnit} (law : NoticeLaw u) (n : Notice) : NoticeLaw (u.raise n) := by
  by_cases enabled : u.enabled n = true
  case neg => rwa [NoticeUnit.raise_masked u n (by simpa using enabled)]
  by_cases known : ∃ r ∈ u.queue, r.notice.sameIdentity n = true
  · rw [NoticeUnit.raise_merged u n enabled known]
    refine ⟨by simpa using law.size, ?_, ?_, law.lost, law.run⟩
    · refine List.pairwise_map.2 (law.identities.imp fun {a b} h => ?_)
      have left : ∀ m, (if a.notice.sameIdentity n then a.merge n else a).notice.sameIdentity m = a.notice.sameIdentity m := fun m => by
        split
        · exact (NoticeRecord.merge_identity ‹_› m).1
        · rfl
      have right : ∀ m : Notice, m.sameIdentity (if b.notice.sameIdentity n then b.merge n else b).notice = m.sameIdentity b.notice :=
        fun m => by
          split
          · exact (NoticeRecord.merge_identity ‹_› m).2
          · rfl
      rw [left, right, h]
    · intro r hr
      obtain ⟨a, ha, rfl⟩ := List.mem_map.1 hr
      have := law.counts a ha
      split
      · simp only [NoticeRecord.merge]
        omega
      · exact this
  · have new : ∀ r ∈ u.queue, r.notice.sameIdentity n = false := by simpa using known
    rw [NoticeUnit.raise_new u n enabled new]
    split
    next room =>
      refine ⟨by simpa using room, ?_, ?_, law.lost, law.run⟩
      · exact List.pairwise_append.2 ⟨law.identities, List.pairwise_singleton _ _, by simpa using new⟩
      · simpa [or_imp, forall_and] using law.counts
    next => exact ⟨law.size, law.identities, law.counts, by simp, law.run⟩

theorem Atoms.raise (s : State) (n : Notice) : Atoms s (s.raise n) := .setNu s _ fun h => h.raise n

theorem Atoms.raiseRestored (s : State) (b : Bool) : Atoms s (s.raiseRestored b) := by
  cases b
  · exact .raise s _
  · exact .refl

/-! ## Changes of the device mode -/

theorem Atoms.changeMode {s : State} {m : Mode} (cause : ModeCause) (before : s.mc.mode ≠ .booting) (after : m ≠ .booting) :
    Atoms s (s.changeMode m cause) :=
  (Atom.mode m before after).one.trans (.raise _ _)

theorem Atoms.enterStop {s : State} (cause : ModeCause) (before : s.mc.mode ≠ .booting) : Atoms s (s.enterStop cause) :=
  (Atoms.changeMode (m := .stop) cause before (by decide)).trans (.mapPorts _ _ PortMove.modeEntersStop)

theorem Atoms.leaveStop {s : State} (cause : ModeCause) (before : s.mc.mode ≠ .booting) : Atoms s (s.leaveStop cause) :=
  (Atoms.changeMode (m := .run) cause before (by decide)).trans (.mapPorts _ _ PortMove.modeLeavesStop)

theorem Atoms.setStopOnQuiet (s : State) (b : Bool) : Atoms s (s.setStopOnQuiet b) := .setMc s _ rfl

theorem Atoms.restartSupervision (s : State) : Atoms s s.restartSupervision := .setMc s _ rfl

theorem Atoms.quench (s : State) : Atoms s s.quench := (Atoms.setEngine s false).trans (.setChannels _ _)

theorem Atoms.reachQuiet {s : State} (due : s.mc.quietDue = true) : Atoms s s.reachQuiet := by
  have mode : s.mc.mode ≠ .booting := fun h => by simp [ModeController.quietDue, h] at due
  have quiet : Atoms s (s.changeMode .quiet .quietReached) := .changeMode _ mode (by decide)
  unfold State.reachQuiet
  split
  · refine (quiet.trans (.setStopOnQuiet _ _)).trans (.enterStop _ ?_)
    show Mode.quiet ≠ .booting
    decide
  · exact quiet

/-! ## What an arbiter serves -/

/-- An arbiter that has chosen something stands at an ACTIVE port of a part that is not held in reset (R82, R182). -/
theorem State.arbiterChoice_active {s : State} {p : PortId} {x : Candidate} (h : s.arbiterChoice p = some x) :
    s.resetn = false ∧ (s.port p).state = .active := by
  unfold State.arbiterChoice at h
  by_cases idle : (s.resetn || (s.port p).state != .active) = true
  · simp [idle] at h
  · simpa using idle

/-- What the shared choice can be: the oldest WAITING entry, or the half of a channel that offers one (R83 to R85). -/
theorem State.sharedChoice_cases {s : State} {p : PortId} {x : Candidate} (h : s.sharedChoice p = some x) :
    (∃ e, x = .upstream e ∧ s.oldestWaiting p = some e) ∨ ∃ c b, x = .copy c ∧ s.copyReady p b = some c := by
  unfold State.sharedChoice at h
  simp only at h
  split at h
  · split at h
    · cases h
    · obtain ⟨e, he, rfl⟩ := Option.map_eq_some_iff.1 h
      exact .inl ⟨e, rfl, he⟩
  · split at h
    next c hc =>
      cases h
      exact .inr ⟨c, true, rfl, hc⟩
    next =>
      have : (s.oldestWaiting p).map Candidate.upstream = some x ∨ (s.copyReady p false).map Candidate.copy = some x := by
        split at h <;> rcases Option.or_eq_some_iff.1 h with h | h <;> tauto
      rcases this with h | h
      · obtain ⟨e, he, rfl⟩ := Option.map_eq_some_iff.1 h
        exact .inl ⟨e, rfl, he⟩
      · obtain ⟨c, hc, rfl⟩ := Option.map_eq_some_iff.1 h
        exact .inr ⟨c, false, rfl, hc⟩

/-- What an arbiter can have chosen, by its SWAP lock and the order of R83 (R82 to R86). -/
inductive ChosenBy (s : State) (p : PortId) : Candidate → Prop
  | locked {i : TrackIdx} {e : TrackEntry} (lock : (s.port p).lock = some i) (entry : s.entry? i = some e)
      (waits : e.state = .waiting) (slot : (s.port p).freeOrder ≠ []) : ChosenBy s p (.upstream e)
  | upkeep (lock : (s.port p).lock = none) (offers : (s.port p).upkeep.offers = true) (slot : (s.port p).freeOrder ≠ []) :
      ChosenBy s p .upkeep
  | hold (lock : (s.port p).lock = none) (request : (s.port p).holdRequest = true) : ChosenBy s p .hold
  | boot (lock : (s.port p).lock = none) (port : p = 0) (offers : s.bootOffers = true) (slot : (s.port p).freeOrder ≠ []) :
      ChosenBy s p .boot
  | shared {x : Candidate} (lock : (s.port p).lock = none) (shared : s.sharedChoice p = some x) (slot : (s.port p).freeOrder ≠ []) :
      ChosenBy s p x

theorem State.arbiterChoice_chosenBy {s : State} {p : PortId} {x : Candidate} (h : s.arbiterChoice p = some x) : ChosenBy s p x := by
  unfold State.arbiterChoice at h
  simp only at h
  split at h
  · cases h
  split at h
  next lock =>
    split at h
    next found =>
      split at h
      next waits =>
        cases h
        simp only [Bool.and_eq_true, beq_iff_eq, Bool.not_eq_true', List.isEmpty_eq_false_iff] at waits
        exact .locked lock found waits.1 waits.2
      · cases h
    · cases h
  next lock =>
    split at h
    next offers =>
      cases h
      simp only [Bool.and_eq_true, Bool.not_eq_true', List.isEmpty_eq_false_iff] at offers
      exact .upkeep lock offers.1 offers.2
    split at h
    next request =>
      cases h
      exact .hold lock request
    split at h
    · cases h
    next slot =>
      have slot : (s.port p).freeOrder ≠ [] := by simpa using slot
      split at h
      next offers =>
        cases h
        simp only [Bool.and_eq_true, beq_iff_eq] at offers
        exact .boot lock offers.1 offers.2 slot
      next => exact .shared lock h slot

/-- A WAITING entry of the port that is the oldest is tracked (R54). -/
theorem State.oldestWaiting_some {s : State} {p : PortId} {e : TrackEntry} (h : s.oldestWaiting p = some e) :
    e ∈ s.tracking ∧ e.port = p ∧ e.state = .waiting := by
  have := List.find?_some h
  simp only [Bool.and_eq_true, beq_iff_eq] at this
  exact ⟨List.mem_of_find?_eq_some h, this⟩

/-- An entry that the table finds is tracked under its index (R51). -/
theorem State.entry_some {s : State} {i : TrackIdx} {e : TrackEntry} (h : s.entry? i = some e) : e ∈ s.tracking ∧ e.index = i :=
  ⟨List.mem_of_find?_eq_some h, by simpa using List.find?_some h⟩

/-- The upstream entry that an arbiter has chosen is tracked; it is of the arbiter's port, or holds its SWAP lock (R83, R85). -/
theorem State.arbiterChoice_upstream {s : State} {p : PortId} {e : TrackEntry} (h : s.arbiterChoice p = some (.upstream e)) :
    e ∈ s.tracking ∧ (e.port = p ∨ (s.port p).lock = some e.index) := by
  cases State.arbiterChoice_chosenBy h with
  | locked lock found =>
    obtain ⟨mem, index⟩ := State.entry_some found
    exact ⟨mem, .inr (by rw [lock, index])⟩
  | shared _ shared =>
    rcases State.sharedChoice_cases shared with ⟨x, hx, oldest⟩ | ⟨c, b, hc, -⟩
    · cases hx
      obtain ⟨mem, port, -⟩ := State.oldestWaiting_some oldest
      exact ⟨mem, .inl port⟩
    · cases hc

/-- The Boot Reader's read is chosen on P0 in BOOTING alone (R86, R183). -/
theorem State.arbiterChoice_boot {s : State} {p : PortId} (h : s.arbiterChoice p = some .boot) : p = 0 ∧ s.bootOffers = true := by
  cases State.arbiterChoice_chosenBy h with
  | boot _ port offers => exact ⟨port, offers⟩
  | shared _ shared => rcases State.sharedChoice_cases shared with ⟨x, hx, -⟩ | ⟨c, b, hc, -⟩ <;> contradiction

theorem Atoms.issueHalf {s : State} {p : PortId} {k : SlotId} {ks : List SlotId} (c : ChannelId) (cur : CurrentCopy)
    (active : (s.port p).state = .active) (order : (s.port p).freeOrder = k :: ks) : Atoms s (s.issueHalf c cur p k) := by
  unfold State.issueHalf
  refine (Atoms.trans (.setChannels s _) (.updPort (s.setChannel c _) p _ ?_)).trans (.setMc _ _ rfl)
  exact (PortMove.issueIn _ _ order active).trans (.turnAfterCopy _ _)

theorem Atoms.issueBootRead {s : State} {k : SlotId} {ks : List SlotId} (offers : s.bootOffers = true)
    (active : (s.port 0).state = .active) (order : (s.port 0).freeOrder = k :: ks) : Atoms s (s.issueBootRead k) := by
  have booting : s.mc.mode = .booting := by
    simp only [State.bootOffers, Bool.and_eq_true, beq_iff_eq] at offers
    exact offers.1.1
  have issued : Atoms s (s.updPort 0 fun q => q.issueIn k .boot (.read s.boot.nextRead.address s.boot.nextRead.count)) :=
    .updPort s 0 _ (.issueIn _ _ order active)
  exact issued.trans (.setBoot _ _ Iff.rfl fun _ => .inr booting)

/-- The issue of a SWAP takes the lock for its entry; any other leaves it (R66, R85). -/
theorem Port.lockFor_cases (q : Port) (e : TrackEntry) : q.lockFor e = q ∨ q.lockFor e = { q with lock := some e.index } := by
  unfold Port.lockFor
  split
  · exact .inr rfl
  · exact .inl rfl
  · exact .inl rfl

theorem Atoms.issueEntry {s : State} {p : PortId} {e : TrackEntry} {k : SlotId} {ks : List SlotId}
    (own : (∃ x ∈ s.tracking, x.index = e.index ∧ x.port = p) ∨ (s.port p).lock = some e.index)
    (active : (s.port p).state = .active) (order : (s.port p).freeOrder = k :: ks) : Atoms s (s.issueEntry p e k) := by
  let sent : Port → Port := fun q => { q.issueIn k (.tracking e.index) e.command with turn := .copy }
  have turned : PortMove (s.port p) (sent (s.port p)) := (PortMove.issueIn _ _ order active).trans (.of_state rfl rfl rfl rfl rfl)
  have issued := Atoms.updPort s p sent turned
  suffices locked : Atoms s (s.updPort p fun q => { (q.issueIn k (.tracking e.index) e.command).lockFor e with turn := .copy }) from
    locked.trans (Atom.entry e.index (fun x => { x with state := .issued k }) fun _ => rfl).one
  rcases Port.lockFor_cases ((s.port p).issueIn k (.tracking e.index) e.command) e with plain | locks
  · have same := State.updPort_congr (s := s) (p := p)
      (f := fun q => { (q.issueIn k (.tracking e.index) e.command).lockFor e with turn := .copy }) (g := sent) (by rw [plain])
    exact same ▸ issued
  · have same := State.updPort_congr (s := s) (p := p)
      (f := fun q => { (q.issueIn k (.tracking e.index) e.command).lockFor e with turn := .copy })
      (g := fun q => { sent q with lock := some e.index }) (by rw [locks])
    rw [same, ← State.updPort_updPort s p sent fun q => { q with lock := some e.index }]
    exact issued.tail (.lock p e.index (own.imp_right fun held => by simpa [sent, Port.issueIn, Port.sendIn] using held))

theorem Atoms.serve (s : State) (p : PortId) : Atoms s (s.serve p) := by
  refine State.serve_keeps (P := Atoms s) .refl (fun h => ?hold) (fun k ks h order => ?upkeep) (fun k ks h order => ?boot)
    (fun c cur k ks h _ order => ?copy) fun e k ks h order => ?entry
  case hold => exact .updPort _ _ _ (.takeHold (State.arbiterChoice_active h).2)
  case upkeep => exact .updPort _ _ _ (.issueUpkeep order (State.arbiterChoice_active h).2)
  case boot =>
    obtain ⟨rfl, offers⟩ := State.arbiterChoice_boot h
    exact .issueBootRead offers (State.arbiterChoice_active h).2 order
  case copy => exact .issueHalf c cur (State.arbiterChoice_active h).2 order
  case entry =>
    obtain ⟨mem, own⟩ := State.arbiterChoice_upstream h
    exact .issueEntry (own.imp_left fun port => ⟨e, mem, rfl, port⟩) (State.arbiterChoice_active h).2 order

/-! ## What follows in the same event -/

theorem Atoms.dispatchAll (s : State) : Atoms s s.dispatchAll :=
  (State.dispatchAll_keeps (P := Atoms s) (fun _ _ _ h oldest free => h.tail (.dispatch oldest free)) .refl).1

theorem Atoms.followUp (s : State) : Atoms s s.followUp :=
  State.followUp_keeps (P := Atoms s) (fun _ _ _ h oldest free => h.tail (.dispatch oldest free))
    (fun _ h due => h.trans (.reachQuiet due)) (fun _ p h => h.trans (.serve _ p))
    (fun _ _ h => h.trans (.updPort _ _ _ (.settle _))) .refl

theorem Atoms.then_followUp {s t : State} (h : Atoms s t) : Atoms s t.followUp := h.trans (.followUp t)

theorem Atoms.endEntry {s : State} {e : TrackEntry} (x : EntryEnd) (tracked : e ∈ s.tracking) : Atoms s (s.endEntry e x) :=
  (Atom.entryEnded x tracked).one.trans (.dispatchAll _)

theorem Atoms.stallTest (s : State) (p : PortId) : Atoms s (s.stallTest p) := by
  unfold State.stallTest
  split
  · exact (Atoms.updPort s p (fun q => { q with stallReport := true }) (.of_state rfl rfl rfl rfl rfl)).trans (.raise _ _)
  · exact .refl

end Sys2Proof.Machine
end

section
/-! PROOFS. Every command as a run of atoms, or as a management command that is placed, taken by its block and answered. -/

namespace Sys2Proof.Machine

/-! ## Reception and admission -/

theorem Atoms.countMalformed (s : State) (m : Bool) : Atoms s (s.countMalformed m) := by
  cases m
  · exact .refl
  · exact .setLi s _ { LinkSame.refl s.li with }

theorem Atoms.validFrame (s : State) : Atoms s s.validFrame :=
  (Atoms.setLi s { s.li.seen with failureRun := 0 } { LinkSame.refl s.li with }).trans (.setMc _ _ rfl)

theorem Atoms.received (s : State) (b : Bool) : Atoms s (s.validFrame.raiseRestored b) := (Atoms.validFrame s).trans (.raiseRestored _ _)

theorem Atoms.overrun (s : State) (pool : Pool) : Atoms s (s.overrun pool) :=
  (Atoms.setLi s { s.li with overruns := s.li.overruns + 1 } { LinkSame.refl s.li with }).trans (.raise _ _)

/-- A REQUEST is counted if malformed, and charged (R174, R175). -/
theorem State.charge_eq (s : State) (pool : Pool) (m : Bool) : s.charge pool m = (s.countMalformed m).charged pool := by
  cases m <;> cases pool <;> rfl

/-- A REQUEST of a pool: discarded, or charged and delivered in a state that has received it (R174, R175). -/
theorem State.receiveRequest_cases (s : State) (pool : Pool) (m : Bool) (deliver : State → State) :
    Atoms s (s.receiveRequest pool m deliver) ∨
      ∃ u, Atoms s u ∧ 0 < u.li.credit pool ∧ s.receiveRequest pool m deliver = deliver (u.charged pool) := by
  unfold State.receiveRequest
  split
  · exact .inl .refl
  · simp only
    split
    · exact .inl ((Atoms.received s _).trans (.overrun _ _))
    next credit =>
      refine .inr ⟨(s.validFrame.raiseRestored s.li.up).countMalformed m, (Atoms.received s _).trans (.countMalformed _ _), ?_, ?_⟩
      · have : ((s.validFrame.raiseRestored s.li.up).countMalformed m).li.credit pool =
            (s.validFrame.raiseRestored s.li.up).li.credit pool := by cases m <;> cases pool <;> rfl
        omega
      · rw [State.charge_eq]

/-- A lookup that hits finds a window in use (R7, R8). -/
theorem State.lookup_inUse {s : State} {r : Requester} {k : ReqKind} {a : Word} {len : Nat} {i : WindowIdx}
    (h : s.lookup r k a len = .ok i) : (s.window i).state ≠ .free := by
  unfold State.lookup at h
  split at h
  · cases h
  next j found =>
    have : i = j := by
      simp only at h
      split at h <;> try cases h
      split at h <;> try cases h
      split at h <;> try cases h
      split at h <;> cases h
      rfl
    subst this
    have := List.find?_some found
    simp only [Window.containsAddr, Window.inUse, Bool.and_eq_true, bne_iff_ne] at this
    exact this.1.1

/-- A request that admission accepts carries a fresh pair and hits a window in use (R31, R34). -/
theorem State.admission_ok {s : State} {f : DataFrame} {b : ReqBody} {i : WindowIdx} (h : s.admission f = .ok (b, i)) :
    f.pair ∉ s.tags ∧ (s.window i).state ≠ .free := by
  unfold State.admission at h
  split at h
  · cases h
  next fresh =>
    refine ⟨by simpa using fresh, ?_⟩
    split at h
    · cases h
    · split at h
      · cases h
      next found =>
        cases h
        exact State.lookup_inUse found

theorem Atoms.bindOrRefuse {s : State} (f : DataFrame) (credit : 0 < s.li.dataCredit) :
    Atoms s ((s.charged .data).bindOrRefuse f) := by
  unfold State.bindOrRefuse
  split
  · exact (Atom.refuse (refusal f.requester f.tag .data _ true) credit rfl).one
  next accepted =>
    obtain ⟨fresh, inUse⟩ := State.admission_ok accepted
    exact (Atom.bind f _ credit fresh inUse).one

theorem Atoms.admitRequest {s : State} (f : DataFrame) (credit : 0 < s.li.dataCredit) :
    Atoms s ((s.charged .data).admitRequest f) := by
  have refused : ∀ r, Atoms s ((s.charged .data).refuseData f r) := fun r =>
    (Atom.refuse (refusal f.requester f.tag .data r true) credit rfl).one
  unfold State.admitRequest
  split
  · unfold State.admitInRun
    split
    · exact .bindOrRefuse f credit
    · exact (Atoms.bindOrRefuse f credit).then_followUp
  next stop =>
    split
    · have mode : s.mc.mode ≠ .booting := fun h => by
        have : s.mc.mode = .stop := stop
        simp [this] at h
      exact ((Atoms.leaveStop .wake mode).trans (.bindOrRefuse (s := s.leaveStop .wake) f credit)).then_followUp
    · exact refused _
  all_goals exact refused _

/-! ## Link reset -/

theorem Atoms.linkResetMode {s : State} (mode : s.mc.mode ≠ .booting) : Atoms s s.linkResetMode := by
  have quiet := Atoms.setMc s { s.mc with stopOnQuiet := false } rfl
  unfold State.linkResetMode
  split
  · exact quiet
  · exact quiet.trans (.leaveStop _ mode)
  · exact quiet.trans (.changeMode (m := .run) _ mode (by decide))

/-- What follows the blocks' parts of link reset in its event (R65, R142, R179). -/
theorem Atoms.takeLinkReset {s : State} (mode : s.mc.mode ≠ .booting) (wasUp : Bool) :
    Atoms s.linkResetBlocks (s.takeLinkReset wasUp) :=
  (((((Atoms.linkResetMode (s := s.linkResetBlocks) mode).trans (.stallTest _ 0)).trans (.stallTest _ 1)).trans (.stallTest _ 2)).trans
    (.stallTest _ 3)).trans (.raiseRestored _ _)

/-! ## The Copy Engine -/

theorem Atoms.setChannel (s : State) (c : ChannelId) (ch : Channel) : Atoms s (s.setChannel c ch) := .setChannels s _

theorem Atoms.reportUnits (s : State) : Atoms s s.reportUnits := .setMc s _ rfl

theorem Atoms.failHalf (s : State) (c : ChannelId) (h : Half) (r : Reason) : Atoms s (s.failHalf c h r) :=
  ((Atoms.setChannel s c _).trans (.raise _ _)).trans (.reportUnits _)

theorem Atoms.abortNow (s : State) (c : ChannelId) (n : Nat) : Atoms s (s.abortNow c n) :=
  ((Atoms.setChannel s c _).trans (.raise _ _)).trans (.reportUnits _)

theorem Atoms.unitMoved (s : State) (c : ChannelId) (ch : Channel) (cur : CurrentCopy) : Atoms s (s.unitMoved c ch cur) := by
  have done : Atoms s (s.raiseDone c cur.desc) := by
    unfold State.raiseDone
    split
    · exact .raise _ _
    · exact .refl
  unfold State.unitMoved
  split
  · exact (done.trans (.setChannel _ _ _)).trans (.reportUnits _)
  · exact (Atoms.setChannel s c _).trans (.reportUnits _)

theorem Atoms.retryHalf (s : State) (c : ChannelId) (u : CopyUnit) (h : Half) (limit : Nat) : Atoms s (s.retryHalf c u h limit) := by
  unfold State.retryHalf
  split
  · exact .setChannel _ _ _
  · exact .failHalf _ _ _ _

theorem Atoms.portResetCopy (s : State) (p : PortId) (c : ChannelId) : Atoms s (s.portResetCopy p c) := by
  unfold State.portResetCopy
  split
  · split
    · exact .abortNow _ _ _
    · exact .failHalf _ _ _ _
  · exact .refl

/-! ## Completions and timeouts -/

theorem Atoms.freeSlot {s : State} {p : PortId} {k : SlotId} (occupied : (s.port p).slot k ≠ .free) :
    Atoms s (s.updPort p fun q => q.freeSlot k) := .updPort s p _ (.freeSlot occupied)

theorem Atoms.countRetry (s : State) (p : PortId) : Atoms s (s.updPort p Port.countRetry) :=
  .updPort s p _ (.of_state rfl rfl rfl rfl rfl)

theorem Atoms.completeEntry {s : State} {p : PortId} {e : TrackEntry} {k : SlotId} (tracked : e ∈ s.tracking)
    (issued : ((s.port p).slot k).isIssued = true) (st : CompletionStatus) (data : List Word) :
    Atoms s (s.completeEntry p e k st data) := by
  have ends : ∀ x, Atoms s (s.endEntry e x) := fun x => .endEntry x tracked
  have occupied : (s.port p).slot k ≠ .free := fun h => by simp [h, Slot.isIssued] at issued
  cases st with
  | ok =>
    show Atoms s (s.okEntry p e k data)
    unfold State.okEntry
    split
    · split <;> exact ends _
    · exact ends _
    · exact ends _
    · split
      · split
        · exact Atoms.trans (Atom.entry e.index (fun x => { x with phase := some (.writeHalf _) }) fun _ => rfl).one
            (.updPort _ p _ (.reissue issued (by simp) rfl rfl rfl rfl rfl))
        · exact ends _
      · exact ends _
  | error => exact ends _
  | retry =>
    show Atoms s (s.retryEntry p e k)
    have counted := Atoms.countRetry s p
    unfold State.retryEntry
    split
    · refine (counted.trans (Atom.entry e.index (fun x => { x with state := .waiting, retries := x.retries + 1 }) fun _ =>
        rfl).one).trans (.freeSlot ?_)
      simpa [Port.countRetry, Port.slot] using occupied
    · exact counted.trans (.endEntry _ tracked)

theorem Atoms.failUpkeep (s : State) (p : PortId) (row : Row) : Atoms s (s.failUpkeep p row) :=
  (Atoms.updPort s p (fun q => { q with upkeep := q.upkeep.fail row }) (.of_state rfl rfl rfl rfl rfl)).trans (.raise _ _)

theorem Atoms.setUpkeep (s : State) (p : PortId) (f : Port → Upkeep) : Atoms s (s.updPort p fun q => { q with upkeep := f q }) :=
  .updPort s p _ (.of_state rfl rfl rfl rfl rfl)

theorem Atoms.completeUpkeep {s : State} {p : PortId} {k : SlotId} (occupied : (s.port p).slot k ≠ .free) (st : CompletionStatus) :
    Atoms s (s.completeUpkeep p k st) := by
  have freed := Atoms.freeSlot occupied
  unfold State.completeUpkeep
  simp only
  split
  · exact freed
  · split
    · exact freed.trans (.setUpkeep _ _ _)
    · exact freed.trans (.failUpkeep _ _ _)
    · split
      · exact (freed.trans (.countRetry _ _)).trans (.setUpkeep _ _ _)
      · exact (freed.trans (.countRetry _ _)).trans (.failUpkeep _ _ _)

theorem Atoms.completeCopy {s : State} {p : PortId} {k : SlotId} (occupied : (s.port p).slot k ≠ .free) (c : ChannelId) (h : Half)
    (st : CompletionStatus) (data : List Word) : Atoms s (s.completeCopy p k c h st data) := by
  unfold State.completeCopy
  simp only
  generalize hc : (if st = .retry then (s.updPort p fun q => q.freeSlot k).updPort p Port.countRetry
    else s.updPort p fun q => q.freeSlot k) = counted
  have reached : Atoms s counted := by
    rw [← hc]
    split
    · exact (Atoms.freeSlot occupied).trans (.countRetry _ _)
    · exact .freeSlot occupied
  split
  · exact reached.trans (.abortNow _ _ _)
  · split
    · split
      · exact reached.trans (.retryHalf _ _ _ _ _)
      · exact reached.trans (.setChannel _ _ _)
      · exact reached.trans (.unitMoved _ _ _ _)
      · exact reached.trans (.failHalf _ _ _ _)
    · exact reached

/-- A validated image names no index twice and no address twice (R185, checks 4 and 5). -/
theorem BootReader.records_distinct {b : BootReader} {im : BootImage} (h : b.records = some im) : windowsDistinct im.windows = true := by
  unfold BootReader.records at h
  split at h
  · split at h
    next distinct =>
      cases h
      exact distinct
    · cases h
  · cases h

theorem Atoms.staged (s : State) : Atoms s s.staged := by
  have finish : s.boot.phase ≠ .finished → ∀ r, Atoms s (s.finishBoot r) := fun h r => (Atom.bootFinishes r (.inl h)).one
  unfold State.staged
  split
  next header =>
    split
    · exact finish (by simp [header]) _
    · exact .setBoot s _ (by simp [header]) .inl
  next body =>
    split
    · unfold State.finishBody
      split
      · exact finish (by simp [body]) _
      · split
        · exact finish (by simp [body]) _
        next found => exact (Atom.bootLoads _ (.inl (by simp [body])) (BootReader.records_distinct found)).one
    · exact .refl
  next => exact .refl

theorem Atoms.completeBoot {s : State} {p : PortId} {k : SlotId} (occupied : (s.port p).slot k ≠ .free) (st : CompletionStatus)
    (data : List Word) : Atoms s (s.completeBoot p k st data) := by
  have freed := Atoms.freeSlot occupied
  unfold State.completeBoot
  simp only
  split
  · exact freed
  next r reading =>
    have underWay : s.boot.underWay := .inr (by simp [reading])
    split
    · split
      · exact (freed.trans (.setBoot _ (s.boot.stage data) Iff.rfl (by simp [BootReader.stage]))).trans (.staged _)
      · exact freed.tail (.bootFinishes _ underWay)
    · exact freed.tail (.bootFinishes _ underWay)
    · split
      · exact (freed.trans (.countRetry _ _)).trans (.setBoot _ _ Iff.rfl fun _ => .inl (by simp [reading]))
      · exact (freed.trans (.countRetry _ _)).tail (.bootFinishes _ underWay)

theorem Atoms.deliver {s : State} {p : PortId} {k : SlotId} (issued : ((s.port p).slot k).isIssued = true) (h : Holder)
    (st : CompletionStatus) (data : List Word) : Atoms s (s.deliver p k h st data) := by
  have occupied : (s.port p).slot k ≠ .free := fun h => by simp [h, Slot.isIssued] at issued
  unfold State.deliver
  split
  · split
    next found => exact .completeEntry (State.entry_some found).1 issued st data
    next => exact .freeSlot occupied
  · exact .completeUpkeep occupied st
  · exact .completeCopy occupied _ _ st data
  · exact .completeBoot occupied st data

theorem Atoms.complete (s : State) (p : PortId) (k : SlotId) (st : CompletionStatus) (data : List Word) :
    Atoms s (s.complete p k st data) := by
  unfold State.complete
  split
  · exact .updPort s p _ (.of_state rfl rfl rfl rfl rfl)
  · split
    next issued => exact (Atoms.deliver (by rw [issued]; rfl) _ st data).then_followUp
    next lingers =>
      have occupied : (s.port p).slot k ≠ .free := by simp [lingers]
      refine Atoms.then_followUp (.trans (.updPort s p _ ?_) (.raise _ _))
      exact (PortMove.freeSlot occupied).trans (.of_state rfl rfl rfl rfl rfl)
    next => exact .trans (.updPort s p _ (.of_state rfl rfl rfl rfl rfl)) (.raise _ _)

theorem Atoms.timeoutHolder (s : State) (p : PortId) (h : Holder) : Atoms s (s.timeoutHolder p h) := by
  unfold State.timeoutHolder
  split
  · split
    next found => exact .endEntry _ (State.entry_some found).1
    next => exact .refl
  · unfold State.timeoutUpkeep
    split
    · exact .failUpkeep _ _ _
    · exact .refl
  · unfold State.timeoutCopy
    split
    · exact .abortNow _ _ _
    · exact .failHalf _ _ _ _
  · unfold State.timeoutBoot
    split
    next reading => exact (Atom.bootFinishes _ (.inr (by simp [reading]))).one
    next => exact .refl

theorem Atoms.linger {s : State} {p : PortId} {k : SlotId} (issued : ((s.port p).slot k).isIssued = true) :
    Atoms s (s.updPort p fun q => q.linger k) :=
  .updPort s p _ (.reissue issued (by simp) rfl rfl rfl rfl rfl)

/-! ## What an owning block does with a command -/

/-- What the block that takes command f does in state s: it answers in the same event, starts a drain, or resets a port, whose answers are
deferred (R160, R161). -/
inductive Taken (f : MgmtFrame) (s : State) : State × Answer → Prop
  | now {t : State} {a : Answer} (h : Atoms s t) (answers : a ≠ .deferred) : Taken f s (t, a)
  | drains {i : WindowIdx} {change : PendingChange} {limit : BitVec 8} (live : (s.window i).state = .live)
      (used : (s.window i).useCount ≠ 0) (none : s.deferred = none)
      (apart : ∀ c, change = .replacement c → s.overlaps c (some i) = false) : Taken f s (s.startDrain f i change limit, .deferred)
  | resets {p : PortId} (owned : s.tags ≠ []) (busy : (s.port p).state ≠ .resetting) : Taken f s ((s.resetPort p f.pair).followUp, .deferred)

/-- Every way an owning block acts on a command that has been placed, so that the tag set is not empty, is one of these. -/
def Act.Sound (act : Act) : Prop := ∀ f s, s.tags ≠ [] → Taken f s (act f s)

theorem Taken.read (f : MgmtFrame) (s : State) (data : List Word) : Taken f s (unchanged (.ok data) s) := .now .refl nofun

theorem Taken.refused (f : MgmtFrame) (s : State) (r : Reason) : Taken f s (unchanged (.refused r) s) := .now .refl nofun

theorem Taken.ok {f : MgmtFrame} {s t : State} {data : List Word} (h : Atoms s t) : Taken f s (t, .ok data) := .now h nofun

theorem Taken.done {f : MgmtFrame} {s t : State} (h : Atoms s t) : Taken f s (t, .done) := .now h nofun

theorem Taken.onPort {f : MgmtFrame} {s : State} {act : PortId → State × Answer} (h : ∀ p, Taken f s (act p)) :
    Taken f s (onPort f s act) := by
  unfold Machine.onPort
  split
  · exact .refused f s _
  · split
    · exact h _
    · exact .refused f s _

theorem Taken.onChannel {f : MgmtFrame} {s : State} {act : ChannelId → State × Answer} (h : ∀ c, Taken f s (act c)) :
    Taken f s (onChannel f s act) := by
  unfold Machine.onChannel
  split
  · exact .refused f s _
  · split
    · exact h _
    · exact .refused f s _

theorem windowLoadAct_sound : windowLoadAct.Sound := fun f s owned => by
  unfold windowLoadAct
  split
  · exact .refused f s _
  · unfold State.loadWindow
    split
    · exact .refused f s _
    next free =>
      split
      · exact .refused f s _
      · split
        · exact .refused f s _
        next apart => exact .ok (Atom.load owned (by simpa [Window.inUse] using free) (by simpa using apart)).one

/-- A window that is neither FREE nor DRAINING is LIVE (R4). -/
theorem Window.live_of {w : Window} (free : w.state ≠ .free) (draining : w.state ≠ .draining) : w.state = .live := by
  cases h : w.state <;> simp_all

theorem windowReplaceAct_sound : windowReplaceAct.Sound := fun f s _ => by
  unfold windowReplaceAct
  split
  · exact .refused f s _
  · unfold State.replaceWindow
    split
    · exact .refused f s _
    next free =>
      split
      · exact .refused f s _
      next idle =>
        simp only [not_or, not_not] at idle
        have live := Window.live_of free idle.1
        split
        · exact .refused f s _
        · split
          · exact .refused f s _
          next apart =>
            split
            next unused => exact .done (Atom.replace live unused idle.2 (by simpa using apart)).one
            next used =>
              refine .drains live used idle.2 fun c' h => ?_
              cases h
              simpa using apart

theorem windowCloseAct_sound : windowCloseAct.Sound := fun f s _ => by
  unfold windowCloseAct
  split
  · exact .refused f s _
  · unfold State.closeWindow
    split
    · exact .refused f s _
    next free =>
      split
      · exact .refused f s _
      next idle =>
        simp only [not_or, not_not] at idle
        have live := Window.live_of free idle.1
        split
        · exact .refused f s _
        · split
          next unused => exact .done (Atom.close live unused idle.2).one
          next used => exact .drains live used idle.2 nofun

theorem windowReadAct_sound : windowReadAct.Sound := fun f s _ => by
  unfold windowReadAct
  split
  · exact .refused f s _
  · split
    · exact .read f s _
    · exact .refused f s _

theorem portConfigureAct_sound : portConfigureAct.Sound := fun f s _ => .onPort fun p => by
  split
  · exact .refused f s _
  · exact .ok (.updPort s p _ (.configure _ _))

theorem portEnableAct_sound : portEnableAct.Sound := fun f s _ => .onPort fun p => by
  split
  next disabled => exact .done (.updPort s p _ (.enable disabled _))
  next => exact .refused f s _

theorem portDisableAct_sound : portDisableAct.Sound := fun f s _ => .onPort fun p => by
  split
  · exact .refused f s _
  next bars =>
    split
    · exact .refused f s _
    · exact .ok (.updPort s p _ (.disable fun h => by simp [h, PortState.barsDisable] at bars))

theorem portResetAct_sound : portResetAct.Sound := fun f s owned => .onPort fun p => by
  split
  next h => exact .resets owned (by simp [h])
  next h => exact .resets owned (by simp [h])
  next h => exact .resets owned (by simp [h])
  all_goals exact .refused f s _

theorem channelLoadAct_sound : channelLoadAct.Sound := fun f s _ => by
  unfold channelLoadAct
  split
  · exact .refused f s _
  · split
    · exact .refused f s _
    · split
      · exact .refused f s _
      · split
        · exact .refused f s _
        · split
          · exact .refused f s _
          · exact .done (.setChannel _ _ _)

theorem channelAbortAct_sound : channelAbortAct.Sound := fun f s _ => .onChannel fun c => by
  split
  · exact .refused f s _
  · exact .refused f s _
  · split
    · exact .ok (.setChannel _ _ _)
    · exact .done (.abortNow _ _ _)

theorem channelResumeAct_sound : channelResumeAct.Sound := fun f s _ => .onChannel fun c => by
  split
  · exact .done (.setChannel _ _ _)
  · exact .refused f s _

theorem channelClearAct_sound : channelClearAct.Sound := fun f s _ => .onChannel fun c => by
  split
  · exact .ok (.setChannel _ _ _)
  · exact .refused f s _

theorem engineStartAct_sound : engineStartAct.Sound := fun f s _ => by
  unfold engineStartAct
  split
  · exact .refused f s _
  · split
    · exact .read f s _
    · exact .done ((Atoms.setEngine s true).trans (.setChannels _ _))

theorem Atoms.enterQuiescing {s : State} (cause : ModeCause) (before : s.mc.mode ≠ .booting) : Atoms s (s.enterQuiescing cause) :=
  (Atoms.changeMode cause before (by decide)).trans (.quench _)

theorem quiesceAct_sound : quiesceAct.Sound := fun f s _ => by
  unfold quiesceAct
  split
  next run => exact .done (.enterQuiescing _ (by simp [run]))
  · exact .read f s _
  · exact .read f s _
  · exact .refused f s _
  · exact .refused f s _

theorem resumeAct_sound : resumeAct.Sound := fun f s _ => by
  unfold resumeAct
  split
  · exact .read f s _
  next quiescing =>
    have mode : (s.setStopOnQuiet false).mc.mode ≠ .booting := by simp [State.setStopOnQuiet, quiescing]
    exact .ok ((Atoms.setStopOnQuiet s false).trans (.changeMode _ mode (by decide)))
  next quiet => exact .ok (.changeMode _ (by simp [quiet]) (by decide))
  next stop => exact .done (.leaveStop _ (by simp [stop]))
  · exact .read f s _

theorem stopAct_sound : stopAct.Sound := fun f s _ => by
  unfold stopAct
  split
  · exact .refused f s _
  · exact .refused f s _
  next quiet => exact .ok (.enterStop _ (by simp [quiet]))
  · exact .read f s _
  · exact .refused f s _

theorem supervisionSetAct_sound : supervisionSetAct.Sound := fun f s _ => by
  unfold supervisionSetAct
  split
  · exact .refused f s _
  · exact .ok (.setMc s _ rfl)

theorem noticeMaskAct_sound : noticeMaskAct.Sound := fun f s _ => by
  unfold noticeMaskAct
  split
  · exact .ok (.setNu s _ fun law => ⟨law.size, law.identities, law.counts, law.lost, law.run⟩)
  · exact .refused f s _

theorem managersSetAct_sound : managersSetAct.Sound := fun f s _ => by
  unfold managersSetAct
  split
  · exact .ok (.setManagers s _)
  · exact .refused f s _

theorem countersReadAct_sound : countersReadAct.Sound := fun f s _ => by
  unfold countersReadAct
  split
  · exact .refused f s _
  next b _ =>
    split
    · exact .refused f s _
    · split
      · cases b with
        | port p => exact .ok (.updPort s p _ (.of_state rfl rfl rfl rfl rfl))
        | link => exact .ok (.setLi s _ { LinkSame.refl s.li with })
      · exact .read f s _

theorem trackReadAct_sound : trackReadAct.Sound := fun f s _ => by
  unfold trackReadAct
  split
  · exact .refused f s _
  · split
    · exact .read f s _
    · exact .refused f s _

/-! ## Events -/

/-- What one command does to the whole state: a reset, a link reset, a run of atoms, or a management command that is charged, placed,
taken and answered (R160). -/
inductive Event : State → State → Prop
  | reset {s t : State} {cause : CauseRecord} {level : Bool} (h : Atoms (s.atReset cause level) t) : Event s t
  | resetLink {s u t : State} (before : Atoms s u) (running : u.mc.mode ≠ .booting) (after : Atoms u.linkResetBlocks t) : Event s t
  | atoms {s t : State} (h : Atoms s t) : Event s t
  | command {s u : State} {f : MgmtFrame} {c : Command} {r : State × Answer} (before : Atoms s u) (credit : 0 < u.li.mgmtCredit)
      (fresh : f.pair ∉ u.tags) (taken : Taken f ((u.charged .management).placeCommand f c) r) : Event s (r.1.answerCommand f r.2)

theorem State.intakeRefusal_none {s : State} {f : MgmtFrame} {n : Nat} (h : s.intakeRefusal f n = none) : f.pair ∉ s.tags := by
  unfold State.intakeRefusal at h
  split at h
  · cases h
  · split at h
    · cases h
    next fresh => simpa using fresh

/-- Every management command of section 9.5 (R159, R160). -/
theorem Event.manage (s : State) (c : Command) (n : Nat) (f : MgmtFrame) {act : Act} (sound : act.Sound) :
    Event s (s.manage c n f act) := by
  rcases s.receiveRequest_cases .management f.malformed (fun t => t.intake c n f act) with h | ⟨u, before, credit, h⟩
  · exact .atoms h
  · rw [State.manage, h, State.intake]
    split
    · exact .atoms (before.tail (.refuse (refusal f.requester f.tag .management _ true) credit rfl))
    next passes => exact .command before credit (State.intakeRefusal_none passes) (sound f _ (by simp [State.placeCommand, State.enterTag]))

/-- A command answers with a next state, by an event. -/
def Answers (s : State) (o : Host.Outcome State Fault Refusal) : Prop := ∃ t, o = .next t ∧ Event s t

theorem Answers.next {s t : State} (h : Event s t) : Answers s (.next t) := ⟨t, rfl, h⟩

theorem Event.powerOn (s : State) : Answers s (execPowerOn s) := .next <| by
  exact .reset (.followUp _)

theorem Event.pinReset (s : State) : Answers s (execPinReset s) := .next <| by
  unfold State.unlessReset
  split
  · exact .atoms .refl
  · exact .reset .refl

theorem Event.resetnDeasserted (s : State) : Answers s (execResetnDeasserted s) := .next <| by
  split
  · exact .atoms (Atoms.setResetn s false).then_followUp
  · exact .atoms .refl

theorem Event.fill (s : State) : Answers s (execFill s) := .next <| by
  unfold State.unlessReset
  split
  · exact .atoms .refl
  · exact .atoms ((Atoms.setLi s s.li.seen { LinkSame.refl s.li with }).trans (.raiseRestored _ _))

theorem Event.frameCheckFailed (s : State) : Answers s (execFrameCheckFailed s) := .next <| by
  unfold State.unlessReset
  split
  · exact .atoms .refl
  · refine .atoms (.setLi s _ ?_)
    unfold LinkInterface.checkFailed
    simp only
    split
    · exact { LinkSame.refl s.li with }
    · split <;> exact { LinkSame.refl s.li with }

theorem Event.idle (s : State) (malformed : Bool) : Answers s (execIdle malformed s) := .next <| by
  unfold State.unlessReset
  split
  · exact .atoms .refl
  · exact .atoms ((Atoms.received s _).trans (.countMalformed _ _))

theorem Event.linkReset (s : State) (malformed : Bool) : Answers s (execLinkReset malformed s) := .next <| by
  unfold State.unlessReset
  split
  · exact .atoms .refl
  · simp only
    split
    · exact .atoms ((Atoms.received s _).trans (.countMalformed _ _))
    · split
      · refine .atoms ((Atoms.validFrame s).trans (.trans (.setLi _ _ ?_) (.raiseRestored _ _)))
        exact { LinkSame.refl _ with }
      next mode => exact .resetLink (.validFrame s) mode (Atoms.takeLinkReset (s := s.validFrame) mode _).then_followUp

theorem Event.dataRequest (s : State) (f : DataFrame) : Answers s (execDataRequest f s) := .next <| by
  rcases s.receiveRequest_cases .data f.malformed (fun t => t.admitRequest f) with h | ⟨u, before, credit, h⟩
  · exact .atoms h
  · exact h ▸ .atoms (before.trans (.admitRequest f credit))

theorem Event.unknownCommand (s : State) (code : Byte) (f : MgmtFrame) : Answers s (execUnknownCommand code f s) := .next <| by
  rcases s.receiveRequest_cases .management f.malformed (fun t => t.refuseMgmt f (t.unknownRefusal f)) with h | ⟨u, before, credit, h⟩
  · exact .atoms h
  · exact h ▸ .atoms (before.tail (.refuse (refusal f.requester f.tag .management _ true) credit rfl))

theorem Event.dispatch (s : State) : Answers s (execDispatch s) := .next <| by
  split
  next oldest free => exact .atoms (Atom.dispatch oldest free).one.then_followUp
  next => exact .atoms .refl

theorem Event.issue (s : State) (p : PortId) : Answers s (execIssue p s) := .next <| by
  split
  next chosen order =>
    obtain ⟨mem, own⟩ := State.arbiterChoice_upstream chosen
    exact .atoms (Atoms.issueEntry (own.imp_left fun port => ⟨_, mem, rfl, port⟩) (State.arbiterChoice_active chosen).2
      order).then_followUp
  next => exact .atoms .refl

theorem Event.upkeepIssue (s : State) (p : PortId) : Answers s (execUpkeepIssue p s) := .next <| by
  split
  next chosen order =>
    exact .atoms (Atoms.updPort s p _ (.issueUpkeep order (State.arbiterChoice_active chosen).2)).then_followUp
  next => exact .atoms .refl

theorem Event.copyHalfIssue (s : State) (p : PortId) : Answers s (execCopyHalfIssue p s) := .next <| by
  split
  next chosen order =>
    split
    · exact .atoms (Atoms.issueHalf _ _ (State.arbiterChoice_active chosen).2 order).then_followUp
    · exact .atoms .refl
  next => exact .atoms .refl

theorem Event.bootReadIssue (s : State) : Answers s (execBootReadIssue s) := .next <| by
  split
  next chosen order =>
    exact .atoms (Atoms.issueBootRead (State.arbiterChoice_boot chosen).2 (State.arbiterChoice_active chosen).2 order).then_followUp
  next => exact .atoms .refl

theorem Event.holdTaken (s : State) (p : PortId) : Answers s (execHoldTaken p s) := .next <| by
  split
  next chosen => exact .atoms (Atoms.updPort s p _ (.takeHold (State.arbiterChoice_active chosen).2)).then_followUp
  next => exact .atoms .refl

theorem Event.portBecomesHeld (s : State) (p : PortId) : Answers s (execPortBecomesHeld p s) := .next <| by
  split
  next due => exact .atoms (Atoms.updPort s p _ (.becomeHeld (by simp [due.1]) due.2)).then_followUp
  next => exact .atoms .refl

theorem Event.portBecomesStopped (s : State) (p : PortId) : Answers s (execPortBecomesStopped p s) := .next <| by
  split
  next due => exact .atoms (Atoms.updPort s p _ (.enterStopped (by simp [due.1]) due.2)).then_followUp
  next => exact .atoms .refl

theorem Event.quietReached (s : State) : Answers s (execQuietReached s) := .next <| by
  split
  next due => exact .atoms (Atoms.reachQuiet due).then_followUp
  next => exact .atoms .refl

theorem Event.installReplacement (s : State) : Answers s (execInstallReplacement s) := .next <| by
  split
  next due => exact .atoms (Atom.install due).one.then_followUp
  next => exact .atoms .refl

theorem Event.installClose (s : State) : Answers s (execInstallClose s) := .next <| by
  split
  next due => exact .atoms (Atom.install due).one.then_followUp
  next => exact .atoms .refl

theorem Event.completion (s : State) (p : PortId) (k : SlotId) (st : CompletionStatus) (data : List Word) :
    Answers s (execCompletion p k st data s) := .next <| by
  unfold State.unlessReset
  split
  · exact .atoms .refl
  · exact .atoms (.complete s p k st data)

theorem Event.issueTimerExpiry (s : State) (p : PortId) (k : SlotId) : Answers s (execIssueTimerExpiry p k s) := .next <| by
  split
  next expired =>
    have issued : ((s.port p).slot k).isIssued = true := by rw [expired]; rfl
    exact .atoms (((Atoms.linger issued).trans (.timeoutHolder _ _ _)).trans (.stallTest _ _)).then_followUp
  next => exact .atoms .refl

theorem Event.holdRequestAsserted (s : State) (p : PortId) : Answers s (execHoldRequestAsserted p s) := .next <| by
  split
  · exact .atoms .refl
  · exact .atoms (Atoms.updPort s p _ (.holdAsserted _)).then_followUp

theorem Event.holdRequestDeasserted (s : State) (p : PortId) : Answers s (execHoldRequestDeasserted p s) := .next <| by
  split
  · exact .atoms (Atoms.updPort s p _ (.holdDeasserted _ _)).then_followUp
  · exact .atoms .refl

theorem Event.holdLimitExpiry (s : State) (p : PortId) : Answers s (execHoldLimitExpiry p s) := .next <| by
  split
  · exact .atoms (.trans (.updPort s p _ (.of_state rfl rfl rfl rfl rfl)) (.raise _ _))
  · exact .atoms .refl

theorem Event.resetPulseExpiry (s : State) (p : PortId) : Answers s (execResetPulseExpiry p s) := .next <| by
  split
  next resetting pulse => exact .atoms (Atom.pulseEnds (u := ⟨0, _⟩) _ resetting pulse).one.then_followUp
  next => exact .atoms .refl

theorem Event.paceLineChange (s : State) (p : PortId) (level : Bool) : Answers s (execPaceLineChange p level s) := .next <| by
  refine .atoms (Atoms.then_followUp ?_)
  have line := Atoms.updPort s p (fun q => { q with pace := level }) (.of_state rfl rfl rfl rfl rfl)
  unfold State.setPace
  simp only
  split
  · exact line.trans (.setChannels _ _)
  · exact line

theorem Event.upkeepExpiry (s : State) (p : PortId) : Answers s (execUpkeepExpiry p s) := .next <| by
  split
  · refine .atoms (Atoms.updPort s p _ ?_).then_followUp
    exact (PortMove.upkeepExpiry _).trans (.of_state rfl rfl rfl rfl rfl)
  · exact .atoms .refl

theorem Event.drainTimerExpiry (s : State) : Answers s (execDrainTimerExpiry s) := .next <| by
  split
  next deferred =>
    split
    next expired => exact .atoms (Atom.revert deferred expired.2).one.then_followUp
    · exact .atoms .refl
  next => exact .atoms .refl

theorem Event.supervisionTimerExpiry (s : State) : Answers s (execSupervisionTimerExpiry s) := .next <| by
  split
  next =>
    refine .atoms ((Atoms.raise s .supervisionExpired).trans ?_)
    generalize s.raise .supervisionExpired = u
    unfold State.superviseByMode
    split
    next run => exact ((Atoms.enterQuiescing _ (by simp [run])).trans (.restartSupervision _)).then_followUp
    next =>
      refine .trans ?_ (.restartSupervision _)
      split
      · exact .refl
      · exact .setStopOnQuiet _ _
    next quiet => exact (Atoms.enterStop _ (by simp [quiet])).trans (.restartSupervision _)
    next => exact .setMc u _ rfl
    next => exact .restartSupervision _
  next => exact .atoms .refl

theorem Event.silenceTimerExpiry (s : State) : Answers s (execSilenceTimerExpiry s) := .next <| by
  split
  · exact .atoms (.setLi s _ { LinkSame.refl s.li with })
  · exact .atoms .refl

theorem Event.takeCredit (s : State) : Answers s (execTakeCredit s) := .next <| by
  split
  next choice => exact .atoms (Atom.takeCredit choice).one
  next => exact .atoms .refl

theorem Event.takeNotice (s : State) : Answers s (execTakeNotice s) := .next <| by
  split
  next choice queue => exact .atoms (Atom.takeNotice choice queue).one
  next => exact .atoms .refl

theorem Event.takeResponse (s : State) : Answers s (execTakeResponse s) := .next <| by
  split
  next choice queue => exact .atoms (Atom.takeResponse choice queue).one
  next => exact .atoms .refl

theorem Event.responseSent (s : State) : Answers s (execResponseSent s) := .next <| by
  split
  next r effective b sent =>
    cases effective
    · exact .atoms (Atom.sent (by simp [sent]) (by simp [sent])).one
    · exact .atoms (Atom.responseSent sent).one
  next => exact .atoms .refl

theorem Event.creditSent (s : State) : Answers s (execCreditSent s) := .next <| by
  split
  next effective b sent =>
    cases effective
    · exact .atoms (Atom.sent (by simp [sent]) (by simp [sent])).one
    · exact .atoms (Atom.creditSent sent).one
  next => exact .atoms .refl

theorem Event.noticeSent (s : State) : Answers s (execNoticeSent s) := .next <| by
  split
  next sent => exact .atoms (Atom.sent (by simp [sent]) (by simp [sent])).one
  next => exact .atoms .refl

/-- Every command answers with a next state, by an event. -/
theorem Event.exec (c : Instr) (s : State) : Answers s (exec c s) := by
  cases c with
  | powerOn => exact Event.powerOn s
  | pinReset => exact Event.pinReset s
  | resetnDeasserted => exact Event.resetnDeasserted s
  | fill => exact Event.fill s
  | frameCheckFailed => exact Event.frameCheckFailed s
  | idle malformed => exact Event.idle s malformed
  | linkReset malformed => exact Event.linkReset s malformed
  | dataRequest f => exact Event.dataRequest s f
  | unknownCommand code f => exact Event.unknownCommand s code f
  | windowLoad f => exact .next (Event.manage s _ _ f windowLoadAct_sound)
  | windowReplace f => exact .next (Event.manage s _ _ f windowReplaceAct_sound)
  | windowClose f => exact .next (Event.manage s _ _ f windowCloseAct_sound)
  | windowRead f => exact .next (Event.manage s _ _ f windowReadAct_sound)
  | windowFind f => exact .next (Event.manage s _ _ f fun f s _ => .read f s _)
  | portConfigure f => exact .next (Event.manage s _ _ f portConfigureAct_sound)
  | portEnable f => exact .next (Event.manage s _ _ f portEnableAct_sound)
  | portDisable f => exact .next (Event.manage s _ _ f portDisableAct_sound)
  | portReset f => exact .next (Event.manage s _ _ f portResetAct_sound)
  | portStatus f => exact .next (Event.manage s _ _ f fun f s _ => .onPort fun _ => .read f s _)
  | channelLoad f => exact .next (Event.manage s _ _ f channelLoadAct_sound)
  | channelAbort f => exact .next (Event.manage s _ _ f channelAbortAct_sound)
  | channelResume f => exact .next (Event.manage s _ _ f channelResumeAct_sound)
  | channelClear f => exact .next (Event.manage s _ _ f channelClearAct_sound)
  | channelStatus f => exact .next (Event.manage s _ _ f fun f s _ => .onChannel fun _ => .read f s _)
  | engineStart f => exact .next (Event.manage s _ _ f engineStartAct_sound)
  | engineQuench f => exact .next (Event.manage s _ _ f fun _ s _ => .ok (.quench s))
  | quiesce f => exact .next (Event.manage s _ _ f quiesceAct_sound)
  | resume f => exact .next (Event.manage s _ _ f resumeAct_sound)
  | stop f => exact .next (Event.manage s _ _ f stopAct_sound)
  | modeStatus f => exact .next (Event.manage s _ _ f fun f s _ => .read f s _)
  | supervisionSet f => exact .next (Event.manage s _ _ f supervisionSetAct_sound)
  | noticeMask f => exact .next (Event.manage s _ _ f noticeMaskAct_sound)
  | managersSet f => exact .next (Event.manage s _ _ f managersSetAct_sound)
  | countersRead f => exact .next (Event.manage s _ _ f countersReadAct_sound)
  | trackRead f => exact .next (Event.manage s _ _ f trackReadAct_sound)
  | identRead f => exact .next (Event.manage s _ _ f fun f s _ => .read f s _)
  | causeRead f => exact .next (Event.manage s _ _ f fun f s _ => .read f s _)
  | dispatch => exact Event.dispatch s
  | issue p => exact Event.issue s p
  | upkeepIssue p => exact Event.upkeepIssue s p
  | copyHalfIssue p => exact Event.copyHalfIssue s p
  | bootReadIssue => exact Event.bootReadIssue s
  | holdTaken p => exact Event.holdTaken s p
  | portBecomesHeld p => exact Event.portBecomesHeld s p
  | portBecomesStopped p => exact Event.portBecomesStopped s p
  | quietReached => exact Event.quietReached s
  | installReplacement => exact Event.installReplacement s
  | installClose => exact Event.installClose s
  | completion p k st data => exact Event.completion s p k st data
  | issueTimerExpiry p k => exact Event.issueTimerExpiry s p k
  | holdRequestAsserted p => exact Event.holdRequestAsserted s p
  | holdRequestDeasserted p => exact Event.holdRequestDeasserted s p
  | holdLimitExpiry p => exact Event.holdLimitExpiry s p
  | resetPulseExpiry p => exact Event.resetPulseExpiry s p
  | paceLineChange p level => exact Event.paceLineChange s p level
  | upkeepExpiry p => exact Event.upkeepExpiry s p
  | drainTimerExpiry => exact Event.drainTimerExpiry s
  | supervisionTimerExpiry => exact Event.supervisionTimerExpiry s
  | silenceTimerExpiry => exact Event.silenceTimerExpiry s
  | takeCredit => exact Event.takeCredit s
  | takeNotice => exact Event.takeNotice s
  | takeResponse => exact Event.takeResponse s
  | responseSent => exact Event.responseSent s
  | creditSent => exact Event.creditSent s
  | noticeSent => exact Event.noticeSent s

theorem Neutral.tick (s : State) : Neutral s s.tick where
  pending := rfl
  windows _ := ⟨_, rfl⟩
  deferred := by simp [State.tick, Function.comp_def]; rfl
  requestQueue := rfl
  tags := rfl
  tracking := rfl
  mgmtQueue := rfl
  ports p := by
    rw [State.port_tick]
    exact .tick _
  mode := rfl
  nu := id
  li := { LinkSame.refl s.li with transmission := by simp [State.tick, LinkInterface.tick, Function.comp_def] }
  finished := Iff.rfl
  reads := .inl

/-- One step: an event on the state without the command at the front of its queue. -/
theorem Event.step (s : State) : ∃ t, Machine.step s = .next t ∧ Event { s with pending := s.pending.tail } t := by
  unfold Machine.step
  split
  next c rest front =>
    rw [front]
    exact Event.exec c _
  next empty =>
    have same : { s with pending := s.pending.tail } = s := by rw [empty, List.tail_nil, ← empty]
    rw [same]
    unfold State.idle
    split
    · exact Event.exec _ s
    · exact Answers.next (.atoms (Atom.neutral (.tick s)).one)

end Sys2Proof.Machine
end

section
/-! PROOFS. The rule by which a property is kept by every event, and the invariants of the slots, of the notice queue and of the boot. -/

namespace Sys2Proof.Machine

/-- What keeps P over an event, beside a law B that is kept already: P is what holds between events, Q f what holds while command f has
been placed and not yet answered, and BQ f what B is then. -/
structure Kept (B : State → Prop) (BQ : MgmtFrame → State → Prop) (P : State → Prop) (Q : MgmtFrame → State → Prop) : Prop where
  reset : ∀ {s : State} (cause : CauseRecord) (level : Bool), B s → P s → P (s.atReset cause level)
  linkReset : ∀ {s : State}, s.mc.mode ≠ .booting → B s → P s → P s.linkResetBlocks
  atom : ∀ {s t : State}, Atom s t → B s → P s → P t
  placed : ∀ {s : State} {f : MgmtFrame} (c : Command), 0 < s.li.mgmtCredit → f.pair ∉ s.tags → B s → P s →
    Q f ((s.charged .management).placeCommand f c)
  taken : ∀ {f : MgmtFrame} {s t : State}, Atom s t → BQ f s → Q f s → Q f t
  answered : ∀ {f : MgmtFrame} {s : State} {r : Response}, r.pair = f.pair → r.pool = .management → r.refusalMark = false →
    BQ f s → Q f s → P (s.answerMgmt r)
  drains : ∀ {f : MgmtFrame} {s : State} {i : WindowIdx} {change : PendingChange} (limit : BitVec 8), (s.window i).state = .live →
    (s.window i).useCount ≠ 0 → s.deferred = none → (∀ c, change = .replacement c → s.overlaps c (some i) = false) →
    BQ f s → Q f s → P (s.startDrain f i change limit)
  resets : ∀ {f : MgmtFrame} {s : State} {p : PortId}, s.tags ≠ [] → (s.port p).state ≠ .resetting → BQ f s → Q f s →
    P (s.resetPort p f.pair)

/-- Nothing is assumed. -/
abbrev Alone (P : State → Prop) (Q : MgmtFrame → State → Prop) : Prop := Kept (fun _ => True) (fun _ _ => True) P Q

/-- A law that is kept beside another is kept with it. -/
theorem Kept.and {B P : State → Prop} {BQ Q : MgmtFrame → State → Prop} (b : Alone B BQ) (k : Kept B BQ P Q) :
    Alone (fun s => B s ∧ P s) (fun f s => BQ f s ∧ Q f s) where
  reset cause level _ h := ⟨b.reset cause level trivial h.1, k.reset cause level h.1 h.2⟩
  linkReset running _ h := ⟨b.linkReset running trivial h.1, k.linkReset running h.1 h.2⟩
  atom a _ h := ⟨b.atom a trivial h.1, k.atom a h.1 h.2⟩
  placed c credit fresh _ h := ⟨b.placed c credit fresh trivial h.1, k.placed c credit fresh h.1 h.2⟩
  taken a _ h := ⟨b.taken a trivial h.1, k.taken a h.1 h.2⟩
  answered pair pool mark _ h := ⟨b.answered pair pool mark trivial h.1, k.answered pair pool mark h.1 h.2⟩
  drains limit live used none apart _ h := ⟨b.drains limit live used none apart trivial h.1, k.drains limit live used none apart h.1 h.2⟩
  resets owned busy _ h := ⟨b.resets owned busy trivial h.1, k.resets owned busy h.1 h.2⟩

section
variable {P : State → Prop} {Q : MgmtFrame → State → Prop} {s t : State}

theorem Alone.atoms (k : Alone P Q) (h : Atoms s t) (law : P s) : P t := by
  induction h with
  | refl => exact law
  | tail _ a ih => exact k.atom a trivial ih

theorem Alone.takenAtoms (k : Alone P Q) {f : MgmtFrame} (h : Atoms s t) (law : Q f s) : Q f t := by
  induction h with
  | refl => exact law
  | tail _ a ih => exact k.taken a trivial ih

/-- What a command leaves when its owning block has acted and its answer has been built (R160, R161). -/
theorem Alone.answer (k : Alone P Q) {f : MgmtFrame} {r : State × Answer} (h : Taken f s r) (law : Q f s) :
    P (r.1.answerCommand f r.2) := by
  cases h with
  | @now u a h answers =>
    have acted : Q f u := k.takenAtoms h law
    cases a with
    | ok data => exact k.answered rfl rfl rfl trivial acted
    | done => exact k.atoms (.followUp _) (k.answered rfl rfl rfl trivial acted)
    | refused reason => exact k.answered rfl rfl rfl trivial acted
    | deferred => exact absurd rfl answers
  | drains live used none apart => exact k.drains _ live used none apart trivial law
  | resets owned busy => exact k.atoms (.followUp _) (k.resets owned busy trivial law)

theorem Alone.event (k : Alone P Q) (h : Event s t) (law : P s) : P t := by
  cases h with
  | reset h => exact k.atoms h (k.reset _ _ trivial law)
  | resetLink before running after => exact k.atoms after (k.linkReset running trivial (k.atoms before law))
  | atoms h => exact k.atoms h law
  | command before credit fresh taken => exact k.answer taken (k.placed _ credit fresh trivial (k.atoms before law))

/-- A property that says nothing of the queue of waiting commands is kept by every step. -/
theorem Alone.step (k : Alone P Q) (rest : ∀ cs, P s → P { s with pending := cs }) (h : step s = .next t) (law : P s) : P t := by
  obtain ⟨u, next, event⟩ := Event.step s
  obtain rfl : u = t := by
    rw [next] at h
    exact Host.Outcome.next.inj h
  exact k.event event (rest _ law)

end

/-! ## Port resets -/

/-- What keeps a property at the end of an entry of port p keeps it at the end of them all (R74). -/
theorem State.endPortEntries_keeps {P : State → Prop} {s : State} {p : PortId}
    (ends : ∀ {t : State} {e : TrackEntry}, e.port = p → P t → P (t.endEntry e (.fault .portReset))) (h : P s) :
    P (s.endPortEntries p) := by
  have ports : ∀ e ∈ s.tracking.filter fun e => e.port == p, e.port = p := by simp
  unfold State.endPortEntries
  generalize s.tracking.filter (fun e => e.port == p) = es at ports
  induction es generalizing s with
  | nil => exact h
  | cons e es ih => exact ih (ends (ports e (by simp)) h) fun x hx => ports x (by simp [hx])

/-- What follows in a port reset after the port has been cleared: copy halves end, and the turn is UPSTREAM (R84, R92, R125). -/
theorem Atoms.resetPort (s : State) (p : PortId) (a : Pair) :
    Atoms (((s.updPort p fun q => q.beginPulse a).endPortEntries p).updPort p Port.clearForReset) (s.resetPort p a) :=
  ((Atoms.portResetCopy _ p 0).trans (.portResetCopy _ p 1)).trans (.updPort _ p _ (.of_state rfl rfl rfl rfl rfl))

/-- A port begins its pulse with no slot, SWAP lock or free-slot order changed (R92). -/
theorem Port.beginPulse_keeps (q : Port) (a : Pair) :
    (q.beginPulse a).slots = q.slots ∧ (q.beginPulse a).freeOrder = q.freeOrder ∧ (q.beginPulse a).lock = q.lock ∧
    (q.beginPulse a).state = .resetting ∧ (q.beginPulse a).pulse.bind Pulse.answerTo = some a := by
  unfold Port.beginPulse
  by_cases h : q.state = .stopped <;> simp [h, Port.startInterval]

/-! ## What the end of an entry and an install leave alone -/

/-- An install leaves the ports, the notices, the mode and the Boot Reader alone (R23, R24). -/
theorem State.installFor_keeps (s : State) (d : DeferredOp) (change : PendingChange) :
    (s.installFor d change).ports = s.ports ∧ (s.installFor d change).nu = s.nu ∧
    (s.installFor d change).mc.mode = s.mc.mode ∧ (s.installFor d change).boot = s.boot := by
  cases change <;> exact ⟨rfl, rfl, rfl, rfl⟩

theorem State.dispatchEntry_keeps (s : State) (e : QueueEntry) (i : TrackIdx) :
    (s.dispatchEntry e i).ports = s.ports ∧ (s.dispatchEntry e i).nu = s.nu ∧
    (s.dispatchEntry e i).mc.mode = s.mc.mode ∧ (s.dispatchEntry e i).boot = s.boot := by
  simp only [State.dispatchEntry]
  split <;> exact ⟨rfl, rfl, rfl, rfl⟩

/-- The install that is due leaves the ports, the notices, the mode and the Boot Reader alone (R23, R24). -/
theorem State.installPending_leaves (s : State) :
    s.installPending.ports = s.ports ∧ s.installPending.nu = s.nu ∧ s.installPending.mc.mode = s.mc.mode ∧
    s.installPending.boot = s.boot :=
  State.installPending_keeps (P := fun t => t.ports = s.ports ∧ t.nu = s.nu ∧ t.mc.mode = s.mc.mode ∧ t.boot = s.boot)
    ⟨rfl, rfl, rfl, rfl⟩ fun _ _ _ => s.installFor_keeps _ _

/-- The answer to an entry that ends leaves the ports and the notice queue's bounds as they are (R69, R70). -/
theorem State.answerEntry_ports (s : State) (e : TrackEntry) (x : EntryEnd) : (s.answerEntry e x).ports = s.ports := by
  unfold State.answerEntry
  split
  · cases x <;> rfl
  · rfl

theorem State.answerEntry_nu (s : State) (e : TrackEntry) (x : EntryEnd) (law : NoticeLaw s.nu) : NoticeLaw (s.answerEntry e x).nu := by
  unfold State.answerEntry
  split
  · cases x
    · exact law
    · exact law.raise _
  · exact law

theorem State.answerEntry_mode (s : State) (e : TrackEntry) (x : EntryEnd) :
    (s.answerEntry e x).mc.mode = s.mc.mode ∧ (s.answerEntry e x).boot = s.boot := by
  unfold State.answerEntry
  split
  · cases x <;> exact ⟨rfl, rfl⟩
  · exact ⟨rfl, rfl⟩

/-- The end of an entry changes its own port alone, in its slot and its SWAP lock (R71). -/
theorem State.port_entryEnded (s : State) (e : TrackEntry) (x : EntryEnd) (p : PortId) :
    (s.entryEnded e x).port p =
      if e.port = p then ((s.port p).releaseFrom e).unlock e.index else s.port p := by
  have same : (s.answerEntry e x).port = s.port := by
    funext q
    simp only [State.port, State.answerEntry_ports]
  unfold State.entryEnded
  simp only [State.port, State.reportTracking_ports, (State.installPending_leaves _).1]
  have := State.port_updPort (s.answerEntry e x) e.port p fun q => (q.releaseFrom e).unlock e.index
  rw [same] at this
  simp only [State.port] at this
  simp only [State.setWindow_ports, State.dropEntry_ports, this]
  split
  · simp_all
  · rfl

theorem State.entryEnded_mode (s : State) (e : TrackEntry) (x : EntryEnd) :
    (s.entryEnded e x).mc.mode = s.mc.mode ∧ (s.entryEnded e x).boot = s.boot := by
  obtain ⟨mode, boot⟩ := s.answerEntry_mode e x
  exact ⟨(State.installPending_leaves _).2.2.1.trans mode, (State.installPending_leaves _).2.2.2.trans boot⟩

/-- The port record of an image that port p of the part takes, if the image has one (R186). -/
def BootImage.applyTo (im : BootImage) (p : PortId) (q : Port) : Port :=
  match im.ports[p.val]? with
  | some r => q.applyRecord r.1 r.2
  | none => q

theorem State.port_applyPort (s : State) (im : BootImage) (p q : PortId) :
    (s.applyPort im.ports p).port q = if p = q then im.applyTo p (s.port p) else s.port q := by
  unfold State.applyPort BootImage.applyTo
  cases im.ports[p.val]? with
  | some r => exact State.port_updPort s p q _
  | none =>
    show s.port q = _
    split
    · simp_all
    · rfl

/-- The windows of an image leave everything else alone (R186). -/
theorem State.applyWindows_keeps {α : Type} {g : State → α} (h : ∀ s i w, g (s.setWindow i w) = g s) (ws : List (WindowIdx × Contents))
    (s : State) : g (ws.foldl State.applyWindow s) = g s := by
  induction ws generalizing s with
  | nil => rfl
  | cons w ws ih => exact (ih _).trans (h s _ _)

/-- Each port takes its own record of the image (R186). -/
theorem State.port_applyImage (s : State) (im : BootImage) (p : PortId) :
    (s.applyImage im).port p = im.applyTo p (s.port p) := by
  have windows : (im.windows.foldl State.applyWindow s).port = s.port :=
    State.applyWindows_keeps (g := State.port) (fun _ _ _ => rfl) _ _
  show (((((im.windows.foldl State.applyWindow s).applyPort im.ports 0).applyPort im.ports 1).applyPort im.ports 2).applyPort
    im.ports 3).port p = _
  fin_cases p <;> simp [State.port_applyPort, windows]

/-! ## The slots (R78, R80) -/

theorem PortMove.releaseFrom (q : Port) (e : TrackEntry) : PortMove q (q.releaseFrom e) := by
  unfold Port.releaseFrom
  split
  next k _ =>
    split
    next issued => exact .freeSlot fun free => by simp [free, Slot.isIssued] at issued
    · exact .refl q
  · exact .refl q

/-- The SWAP lock is released, or stays (R68). -/
theorem Port.unlock_cases (q : Port) (i : TrackIdx) :
    q.unlock i = q ∨ q.lock = some i ∧ q.unlock i = { q with lock := none } := by
  unfold Port.unlock
  split
  next held => exact .inr ⟨held, rfl⟩
  · exact .inl rfl

theorem SlotLaw.unlock {q : Port} (law : SlotLaw q) (i : TrackIdx) : SlotLaw (q.unlock i) := by
  rcases q.unlock_cases i with h | ⟨-, h⟩ <;> rw [h]
  · exact law
  · exact ⟨law.once, law.exact, law.resting, law.resetting⟩

theorem SlotLaw.entryEnded {s : State} {e : TrackEntry} {x : EntryEnd} {p : PortId} (law : SlotLaw (s.port p)) :
    SlotLaw ((s.entryEnded e x).port p) := by
  rw [State.port_entryEnded]
  split
  · exact ((PortMove.releaseFrom _ _).slots law).unlock _
  · exact law

/-- Dispatch leaves the ports alone (R43). -/
theorem State.dispatchAll_ports (s : State) : s.dispatchAll.ports = s.ports :=
  (State.dispatchAll_keeps (P := fun t => t.ports = s.ports) (fun t e i h _ _ => (t.dispatchEntry_keeps e i).1.trans h) rfl).1

theorem SlotLaw.linkReset {q : Port} (law : SlotLaw q) : SlotLaw q.linkReset := by
  have slot : ∀ k, q.linkReset.slot k = (q.slot k).linkReset := fun k => by simp [Port.linkReset, Port.slot]
  have kind : ∀ sl : Slot, (sl.linkReset = .free ↔ sl = .free) ∧ (sl.isIssued = false → sl.linkReset.isIssued = false) := by
    intro sl
    cases sl with
    | issued h => cases h <;> simp [Slot.linkReset, Slot.isIssued]
    | _ => simp [Slot.linkReset, Slot.isIssued]
  refine ⟨law.once, fun k => ?_, fun hr => ?_, fun hr k => ?_⟩
  · rw [slot, (kind _).1]
    exact law.exact k
  · refine (Port.anyIssued_eq_false_iff _).2 fun k => ?_
    rw [slot]
    exact (kind _).2 ((Port.anyIssued_eq_false_iff q).1 (law.resting hr) k)
  · rw [slot, (kind _).1]
    exact law.resetting hr k

theorem SlotLaw.endPulse {q : Port} (resetting : q.state = .resetting) (law : SlotLaw q) (modeStop : Bool) :
    SlotLaw (q.endPulse modeStop) := by
  have idle : q.anyIssued = false := law.resting (.inr (.inr resetting))
  unfold Port.endPulse
  cases modeStop
  · exact SlotLaw.of_eq (q := q) rfl rfl (fun _ => .inr idle) (by simp) law
  · obtain ⟨state, slots, order, -, -⟩ := Port.enterStopped_keeps { q with pulse := none }
    exact SlotLaw.of_eq (q := q) slots order (fun _ => .inr idle) (fun h => by rcases state with g | g <;> simp [g] at h) law

/-- The record of an image leaves the slots of its port in agreement with their order (R186). -/
theorem SlotLaw.applyRecord {q : Port} (law : SlotLaw q) (on : Bool) (c : PortConfig) : SlotLaw (q.applyRecord on c) := by
  have stored : SlotLaw (q.configure c) := (PortMove.configure q c).slots law
  unfold Port.applyRecord
  simp only
  split
  next disabled => exact (PortMove.enable (q := q.configure c) disabled false).slots stored
  · exact stored
  · exact stored
  · exact SlotLaw.of_eq (q := q.configure c) rfl rfl (by simp [Port.disable]) (by simp [Port.disable]) stored

theorem SlotLaw.applyTo {q : Port} (law : SlotLaw q) (im : BootImage) (p : PortId) : SlotLaw (im.applyTo p q) := by
  unfold BootImage.applyTo
  split
  · exact law.applyRecord _ _
  · exact law

theorem SlotLaw.atom {s t : State} (a : Atom s t) {p : PortId} (law : SlotLaw (s.port p)) : SlotLaw (t.port p) := by
  cases a with
  | neutral h => exact (h.ports p).slots law
  | lock q i own =>
    rw [State.port_updPort]
    split
    next same =>
      subst same
      exact ⟨law.once, law.exact, law.resting, law.resetting⟩
    · exact law
  | dispatch => rwa [State.port, (State.dispatchEntry_keeps _ _ _).1]
  | entryEnded x tracked => exact law.entryEnded
  | install => rwa [State.port, (State.installFor_keeps _ _ _).1]
  | bootLoads im =>
    have : ((s.applyImage im).finishBoot .loaded).port p = im.applyTo p (s.port p) := State.port_applyImage s im p
    rw [this]
    exact law.applyTo im p
  | @pulseEnds q u modeStop resetting pulse =>
    have : ((s.updPort q fun q => q.endPulse modeStop).answerPulse u.answerTo).port p = (s.updPort q fun q => q.endPulse modeStop).port p := by
      cases u.answerTo <;> rfl
    rw [this, State.port_updPort]
    split
    next same =>
      subst same
      exact law.endPulse resetting modeStop
    · exact law
  | responseSent =>
    have : ∀ r, (State.responseSent { s with li := s.li.sent } r).port = s.port := fun r => by
      unfold State.responseSent
      cases r.pool <;> (split <;> rfl)
    rwa [this]
  | _ => exact law

/-- In a port reset the slots of the other ports stay in agreement with their orders, and those of the port are cleared (R92). -/
theorem SlotLaw.resetPort {s : State} {p : PortId} {a : Pair} (law : ∀ q, SlotLaw (s.port q)) (q : PortId) :
    SlotLaw ((s.resetPort p a).port q) := by
  let others (t : State) : Prop := ∀ q ≠ p, SlotLaw (t.port q)
  have began : others (s.updPort p fun q => q.beginPulse a) := fun q other => by
    rw [State.port_updPort, if_neg (Ne.symm other)]
    exact law q
  have ended := State.endPortEntries_keeps (P := others) (p := p)
    (fun {t e} _ h q other => by
      rw [State.endEntry_eq, State.port, State.dispatchAll_ports]
      exact (h q other).entryEnded) began
  refine Atoms.resetPort s p a |>.rec (motive := fun t _ => SlotLaw (t.port q)) ?_ fun _ atom ih => SlotLaw.atom atom ih
  rw [State.port_updPort]
  split
  · exact .cleared rfl rfl
  next other => exact ended q (Ne.symm other)

/-- A port at reset: every slot free, no SWAP lock, no reset pulse (R81). -/
theorem State.port_atReset (s : State) (cause : CauseRecord) (level : Bool) (p : PortId) :
    ((s.atReset cause level).port p).slots = #v[.free, .free, .free, .free] ∧
    ((s.atReset cause level).port p).freeOrder = [0, 1, 2, 3] ∧ ((s.atReset cause level).port p).lock = none ∧
    ((s.atReset cause level).port p).pulse = none := by
  have read : (s.atReset cause level).port p =
      { State.reset.ports[p] with holdRequest := s.ports[p].holdRequest, pace := s.ports[p].pace } := by
    simp [State.port, State.atReset]
  rw [read]
  fin_cases p <;> exact ⟨rfl, rfl, rfl, rfl⟩

theorem slots_kept : Alone (fun s => ∀ p, SlotLaw (s.port p)) fun _ s => ∀ p, SlotLaw (s.port p) where
  reset {s} cause level _ _ p := by
    obtain ⟨slots, order, -⟩ := s.port_atReset cause level p
    exact .cleared slots order
  linkReset {s} _ _ law p := by
    have : s.linkResetBlocks.port p = (s.port p).linkReset := State.port_mapPorts _ _ _
    rw [this]
    exact (law p).linkReset
  atom a _ law p := (law p).atom a
  placed _ _ _ _ law := law
  taken a _ law p := (law p).atom a
  answered _ _ _ _ law := law
  drains _ _ _ _ _ _ law := law
  resets _ _ _ law := SlotLaw.resetPort law

/-- Settles O56: every change of a step keeps the slots and the free-slot order of each port in agreement. -/
theorem stepKeepsTheSlots : Obligations.StepKeepsTheSlots := fun _ _ law next =>
  slots_kept.step (fun _ h => h) next law

/-! ## The notice queue (R149 to R151) -/

theorem NoticeLaw.entryEnded {s : State} (law : NoticeLaw s.nu) (e : TrackEntry) (x : EntryEnd) : NoticeLaw (s.entryEnded e x).nu := by
  have same : (s.entryEnded e x).nu = (s.answerEntry e x).nu := (State.installPending_leaves _).2.1
  exact same ▸ s.answerEntry_nu e x law

theorem State.dispatchAll_nu (s : State) : s.dispatchAll.nu = s.nu :=
  (State.dispatchAll_keeps (P := fun t => t.nu = s.nu) (fun t e i h _ _ => (t.dispatchEntry_keeps e i).2.1.trans h) rfl).1

/-- The boot ends with two notices (R187). -/
theorem NoticeLaw.finishBoot {s : State} (law : NoticeLaw s.nu) (r : BootResult) : NoticeLaw (s.finishBoot r).nu :=
  (law.raise _).raise _

/-- The image of the boot leaves the notices, the mode, the link and the queues alone (R186). -/
theorem State.applyImage_keeps {α : Type} {g : State → α} (window : ∀ s i w, g (s.setWindow i w) = g s)
    (port : ∀ s p f, g (s.updPort p f) = g s) (mc : ∀ (s : State) m, m.mode = s.mc.mode → g { s with mc := m } = g s) (s : State)
    (im : BootImage) : g (s.applyImage im) = g s := by
  have ports : ∀ t p, g (t.applyPort im.ports p) = g t := fun t p => by
    unfold State.applyPort
    split
    · exact port _ _ _
    · rfl
  let t := im.windows.foldl State.applyWindow s
  let u := (((t.applyPort im.ports 0).applyPort im.ports 1).applyPort im.ports 2).applyPort im.ports 3
  calc g (s.applyImage im)
      = g u := mc u { u.mc with period := im.supervision.1, wakeOnRequest := im.supervision.2 } rfl
    _ = g t := by rw [ports, ports, ports, ports]
    _ = g s := State.applyWindows_keeps window _ _

theorem NoticeLaw.atom {s t : State} (a : Atom s t) (law : NoticeLaw s.nu) : NoticeLaw t.nu := by
  cases a with
  | neutral h => exact h.nu law
  | dispatch => rwa [(State.dispatchEntry_keeps _ _ _).2.1]
  | entryEnded x tracked => exact law.entryEnded _ _
  | install => rwa [(State.installFor_keeps _ _ _).2.1]
  | takeNotice _ queue =>
    have size := law.size
    have counts := law.counts
    have identities := law.identities
    rw [queue] at size counts identities
    refine ⟨?_, identities.of_cons, fun r hr => counts r (List.mem_cons_of_mem _ hr), by simp, by simp⟩
    exact Nat.le_of_succ_le size
  | takeResponse =>
    show NoticeLaw s.nu.countResponse
    unfold NoticeUnit.countResponse
    split
    · exact law
    · exact ⟨law.size, law.identities, law.counts, law.lost, by simp [Config.responseRun]⟩
  | responseSent =>
    have : ∀ r, (State.responseSent { s with li := s.li.sent } r).nu = s.nu := fun r => by
      unfold State.responseSent
      cases r.pool <;> (split <;> rfl)
    rwa [this]
  | bootFinishes => exact law.finishBoot _
  | bootLoads im =>
    have : (s.applyImage im).nu = s.nu :=
      State.applyImage_keeps (g := State.nu) (fun _ _ _ => rfl) (fun _ _ _ => rfl) (fun _ _ _ => rfl) _ _
    exact NoticeLaw.finishBoot (this ▸ law) _
  | @pulseEnds q u =>
    have : ∀ t : State, (t.answerPulse u.answerTo).nu = t.nu := fun t => by cases u.answerTo <;> rfl
    rwa [this]
  | _ => exact law

theorem NoticeLaw.resetPort {s : State} (law : NoticeLaw s.nu) (p : PortId) (a : Pair) : NoticeLaw (s.resetPort p a).nu := by
  have ended := State.endPortEntries_keeps (P := fun t => NoticeLaw t.nu) (s := s.updPort p fun q => q.beginPulse a) (p := p)
    (fun {t e} _ h => by
      rw [State.endEntry_eq, State.dispatchAll_nu]
      exact h.entryEnded _ _) law
  exact Atoms.resetPort s p a |>.rec (motive := fun t _ => NoticeLaw t.nu) ended fun _ atom ih => ih.atom atom

theorem notices_kept : Alone (fun s => NoticeLaw s.nu) fun _ s => NoticeLaw s.nu where
  reset _ _ _ _ := by
    show NoticeLaw NoticeUnit.initial
    exact ⟨by decide, by decide, by decide, by decide, by decide⟩
  linkReset _ _ law := ⟨by simp [State.linkResetBlocks], by simp [State.linkResetBlocks], by simp [State.linkResetBlocks], law.lost,
    by simp [State.linkResetBlocks]⟩
  atom a _ law := law.atom a
  placed _ _ _ _ law := law
  taken a _ law := law.atom a
  answered _ _ _ _ law := law
  drains _ _ _ _ _ _ law := law
  resets _ _ _ law := law.resetPort _ _

/-- Settles O57: a raise and a take keep the notice queue to its bounds, and nothing else changes it but a link reset. -/
theorem stepKeepsTheNotices : Obligations.StepKeepsTheNotices := fun _ _ law next =>
  notices_kept.step (fun _ h => h) next law

end Sys2Proof.Machine
end

section
/-! PROOFS. The invariant of the boot: in BOOTING nothing has been admitted, answered or granted. -/

namespace Sys2Proof.Machine

/-! ## What shows that the boot is over -/

/-- Once the boot is over the law speaks of the Boot Reader alone (R183, R187). -/
theorem BootLaw.of_running {s t : State} (law : BootLaw s) (before : s.mc.mode ≠ .booting) (after : t.mc.mode ≠ .booting)
    (boot : t.boot = s.boot) : BootLaw t where
  phase := by simp [boot, after, law.phase.2 before]
  windows h := absurd h after
  deferred h := absurd h after
  queues h := absurd h after
  credits h := absurd h after
  link h := absurd h after
  pulses h := absurd h after
  reads _ := by rw [boot, law.reads before]

section
variable {s : State} (law : BootLaw s)
include law

theorem BootLaw.running_of_queue {e : QueueEntry} (h : e ∈ s.requestQueue) : s.mc.mode ≠ .booting := fun booting => by
  simp [(law.queues booting).1] at h

theorem BootLaw.running_of_tracking {e : TrackEntry} (h : e ∈ s.tracking) : s.mc.mode ≠ .booting := fun booting => by
  simp [(law.queues booting).2.1] at h

theorem BootLaw.running_of_deferred {d : DeferredOp} (h : s.deferred = some d) : s.mc.mode ≠ .booting := fun booting => by
  simp [law.deferred booting] at h

theorem BootLaw.running_of_window {i : WindowIdx} (h : (s.window i).state ≠ .free) : s.mc.mode ≠ .booting := fun booting =>
  h (law.windows booting i).1

theorem BootLaw.running_of_tags (h : s.tags ≠ []) : s.mc.mode ≠ .booting := fun booting => h (law.queues booting).2.2.1

theorem BootLaw.running_of_credit {pool : Pool} (h : 0 < s.li.credit pool) : s.mc.mode ≠ .booting := fun booting => by
  obtain ⟨data, management⟩ := law.credits booting
  cases pool
  · exact absurd data (Nat.ne_of_gt h)
  · exact absurd management (Nat.ne_of_gt h)

theorem BootLaw.running_of_transmission {x : Transmission} (h : s.li.transmission = some x) : s.mc.mode ≠ .booting :=
  fun booting => by simp [(law.link booting).2.2] at h

theorem BootLaw.running_of_pulse {p : PortId} {u : Pulse} (h : (s.port p).pulse = some u) : s.mc.mode ≠ .booting := fun booting => by
  simp [law.pulses booting p] at h

/-- While the boot is under way the mode is BOOTING (R183, R187). -/
theorem BootLaw.booting_of_underWay (h : s.boot.underWay) : s.mc.mode = .booting := by
  by_contra running
  rcases h with h | h
  · exact h (law.phase.2 running)
  · exact h (law.reads running)

end

/-- What the transmitter chooses, and when (R153, R154, R176, R178). -/
theorem State.transmitChoice_iff (s : State) :
    (s.transmitChoice = some .credit ↔ s.transmitterFree ∧ s.li.creditPending = true) ∧
    (s.transmitChoice = some .notice ↔ s.transmitterFree ∧ s.li.creditPending = false ∧ s.noticeOffered = true) ∧
    (s.transmitChoice = some .response ↔ s.transmitterFree ∧ s.li.creditPending = false ∧ s.noticeOffered = false ∧
      s.li.responses ≠ []) := by
  unfold State.transmitChoice State.transmitterFree
  by_cases free : (s.resetn || !s.li.up || s.li.transmission.isSome) = true
  · have : ¬ (s.resetn = false ∧ s.li.up = true ∧ s.li.transmission = none) := by
      rintro ⟨h1, h2, h3⟩
      simp [h1, h2, h3] at free
    simp [free, this]
  · have : s.resetn = false ∧ s.li.up = true ∧ s.li.transmission = none := by simpa [and_assoc] using free
    rw [if_neg free]
    simp only [this]
    cases s.li.creditPending <;> cases s.noticeOffered <;> cases s.li.responses <;> simp

theorem State.installDue_some {s : State} {d : DeferredOp} {change : PendingChange} (h : s.installDue = some (d, change)) :
    s.deferred = some d ∧ (s.window d.index).state = .draining ∧ (s.window d.index).useCount = 0 ∧
    ∃ l, (s.window d.index).pending = some ⟨change, l⟩ := by
  unfold State.installDue at h
  split at h
  · cases h
  next deferred =>
    simp only at h
    split at h
    next due =>
      obtain ⟨r, hr, same⟩ := Option.map_eq_some_iff.1 h
      cases same
      exact ⟨deferred, due.1, due.2, r.drainLimit, hr⟩
    next => cases h

/-! ## The law -/

theorem BootLaw.neutral {s t : State} (law : BootLaw s) (h : Neutral s t) : BootLaw t where
  phase := by rw [h.finished, h.mode, law.phase]
  windows booting i := by
    obtain ⟨n, hn⟩ := h.windows i
    rw [hn]
    exact law.windows (h.mode ▸ booting) i
  deferred booting := by
    have := h.deferred
    rw [law.deferred (h.mode ▸ booting)] at this
    simpa using this
  queues booting := by
    rw [h.requestQueue, h.tracking, h.tags, h.mgmtQueue]
    exact law.queues (h.mode ▸ booting)
  credits booting := by
    rw [h.li.dataCredit, h.li.mgmtCredit]
    exact law.credits (h.mode ▸ booting)
  link booting := by
    obtain ⟨credit, responses, transmission⟩ := law.link (h.mode ▸ booting)
    have := h.li.transmission
    rw [transmission] at this
    exact ⟨h.li.creditPending ▸ credit, h.li.responses ▸ responses, by simpa using this⟩
  pulses booting p := by
    have := (h.ports p).pulse
    rw [law.pulses (h.mode ▸ booting) p] at this
    simpa using this
  reads running := by
    rw [h.mode] at running
    by_contra reading
    rcases h.reads reading with before | booting
    · exact before (law.reads running)
    · exact running booting

/-- Nothing changes but the tracking entries and the SWAP locks (R51, R85). -/
theorem BootLaw.of_same {s t : State} (law : BootLaw s) (mode : t.mc.mode = s.mc.mode) (boot : t.boot = s.boot)
    (window : t.window = s.window) (rest : t.deferred = s.deferred ∧ t.requestQueue = s.requestQueue ∧ t.tags = s.tags ∧
      t.mgmtQueue = s.mgmtQueue ∧ t.li = s.li) (tracking : s.tracking = [] → t.tracking = [])
    (pulse : ∀ p, (t.port p).pulse = (s.port p).pulse) : BootLaw t := by
  obtain ⟨deferred, queue, tags, mgmt, li⟩ := rest
  constructor
  case phase => rw [mode, boot, law.phase]
  case reads => rw [mode, boot]; exact law.reads
  all_goals rw [mode]
  case windows => rw [window]; exact law.windows
  case deferred => rw [deferred]; exact law.deferred
  case queues =>
    rw [queue, tags, mgmt]
    exact fun booting => ⟨(law.queues booting).1, tracking (law.queues booting).2.1, (law.queues booting).2.2⟩
  case credits => rw [li]; exact law.credits
  case link => rw [li]; exact law.link
  case pulses => exact fun booting p => (pulse p).trans (law.pulses booting p)

/-- The end of the boot: the mode is RUN, no read is in flight (R183, R187). -/
theorem BootLaw.finishBoot (s : State) (r : BootResult) : BootLaw (s.finishBoot r) := by
  have run : (s.finishBoot r).mc.mode ≠ .booting := by
    show Mode.run ≠ .booting
    decide
  exact ⟨iff_of_true rfl run, fun h => absurd h run, fun h => absurd h run, fun h => absurd h run, fun h => absurd h run,
    fun h => absurd h run, fun h => absurd h run, fun _ => rfl⟩

theorem State.responseSent_keeps (s : State) (r : Response) :
    (s.responseSent r).mc = s.mc ∧ (s.responseSent r).boot = s.boot := by
  unfold State.responseSent
  cases r.pool <;> (split <;> exact ⟨rfl, rfl⟩)

theorem State.answerPulse_keeps (s : State) (a : Option Pair) :
    (s.answerPulse a).mc = s.mc ∧ (s.answerPulse a).boot = s.boot := by
  cases a <;> exact ⟨rfl, rfl⟩

theorem BootLaw.atom {s t : State} (a : Atom s t) (law : BootLaw s) : BootLaw t := by
  -- a change of a part whose boot is runs, which leaves the mode and the Boot Reader alone
  have runs : ∀ {u : State}, s.mc.mode ≠ .booting → u.mc.mode = s.mc.mode → u.boot = s.boot → BootLaw u := fun running mode boot =>
    law.of_running running (mode ▸ running) boot
  cases a with
  | neutral h => exact law.neutral h
  | mode m before after => exact law.of_running before after rfl
  | entry i f => exact law.of_same rfl rfl rfl ⟨rfl, rfl, rfl, rfl, rfl⟩ (fun h => by simp [State.updEntry, h]) fun _ => rfl
  | lock p i =>
    refine law.of_same rfl rfl rfl ⟨rfl, rfl, rfl, rfl, rfl⟩ id fun q => ?_
    rw [State.port_updPort]
    split
    next same => rw [← same]
    · rfl
  | dispatch oldest =>
    obtain ⟨-, -, mode, boot⟩ := s.dispatchEntry_keeps _ _
    exact runs (law.running_of_queue (State.oldestDispatchable_some oldest).1) mode boot
  | entryEnded x tracked =>
    obtain ⟨mode, boot⟩ := s.entryEnded_mode _ x
    exact runs (law.running_of_tracking tracked) mode boot
  | install due =>
    obtain ⟨-, -, mode, boot⟩ := s.installFor_keeps _ _
    exact runs (law.running_of_deferred (State.installDue_some due).1) mode boot
  | revert deferred => exact runs (law.running_of_deferred deferred) rfl rfl
  | load owned => exact runs (law.running_of_tags owned) rfl rfl
  | @replace i _ live => exact runs (law.running_of_window (i := i) (by simp [live])) rfl rfl
  | @close i live => exact runs (law.running_of_window (i := i) (by simp [live])) rfl rfl
  | refuse r credit => exact runs (law.running_of_credit credit) rfl rfl
  | bind f b credit => exact runs (law.running_of_credit (pool := .data) credit) rfl rfl
  | takeCredit choice =>
    refine runs (fun booting => ?_) rfl rfl
    have pending := (s.transmitChoice_iff.1.1 choice).2
    simp [(law.link booting).1] at pending
  | takeNotice choice =>
    have offered := (s.transmitChoice_iff.2.1.1 choice).2.2
    refine runs (fun booting => ?_) rfl rfl
    simp [State.noticeOffered, booting] at offered
  | takeResponse choice =>
    refine runs (fun booting => ?_) rfl rfl
    exact (s.transmitChoice_iff.2.2.1 choice).2.2.2 (law.link booting).2.1
  | responseSent sent =>
    obtain ⟨mc, boot⟩ := State.responseSent_keeps { s with li := s.li.sent } _
    exact runs (law.running_of_transmission sent) (congrArg ModeController.mode mc) boot
  | creditSent sent => exact runs (law.running_of_transmission sent) rfl rfl
  | sent =>
    exact { law with
      windows := law.windows
      deferred := law.deferred
      queues := law.queues
      credits := law.credits
      link := fun booting => ⟨(law.link booting).1, (law.link booting).2.1, rfl⟩
      pulses := law.pulses }
  | bootFinishes => exact BootLaw.finishBoot _ _
  | bootLoads => exact BootLaw.finishBoot _ _
  | @pulseEnds p u modeStop resetting pulse =>
    obtain ⟨mc, boot⟩ := (s.updPort p fun q => q.endPulse modeStop).answerPulse_keeps u.answerTo
    exact runs (law.running_of_pulse pulse) (congrArg ModeController.mode mc) boot

/-- No change but a reset leads back to BOOTING (R135). -/
theorem Atom.running {s t : State} (a : Atom s t) (running : s.mc.mode ≠ .booting) : t.mc.mode ≠ .booting := by
  cases a with
  | neutral h => rwa [h.mode]
  | mode m before after => exact after
  | dispatch => rwa [(s.dispatchEntry_keeps _ _).2.2.1]
  | entryEnded x => rwa [(s.entryEnded_mode _ x).1]
  | install => rwa [(s.installFor_keeps _ _).2.2.1]
  | responseSent => rwa [(State.responseSent_keeps { s with li := s.li.sent } _).1]
  | @pulseEnds p u modeStop => rwa [((s.updPort p fun q => q.endPulse modeStop).answerPulse_keeps u.answerTo).1]
  | bootFinishes =>
    show Mode.run ≠ .booting
    decide
  | bootLoads =>
    show Mode.run ≠ .booting
    decide
  | _ => exact running

theorem Atoms.running {s t : State} (a : Atoms s t) (running : s.mc.mode ≠ .booting) : t.mc.mode ≠ .booting := by
  induction a with
  | refl => exact running
  | tail _ atom ih => exact atom.running ih

theorem BootLaw.atoms {s t : State} (a : Atoms s t) (law : BootLaw s) : BootLaw t := by
  induction a with
  | refl => exact law
  | tail _ atom ih => exact ih.atom atom

/-- Every block at its reset values satisfies the law (R182). -/
theorem BootLaw.atReset (s : State) (cause : CauseRecord) (level : Bool) : BootLaw (s.atReset cause level) where
  phase := iff_of_false (show BootPhase.header ≠ .finished by decide) (not_not.2 rfl)
  windows _ i := by simp [State.window, State.atReset, State.reset, Window.initial]
  deferred _ := rfl
  queues _ := ⟨rfl, rfl, rfl, rfl⟩
  credits _ := ⟨rfl, rfl⟩
  link _ := ⟨rfl, rfl, rfl⟩
  pulses _ p := (s.port_atReset cause level p).2.2.2
  reads h := absurd rfl h

/-- Outside BOOTING the end of an entry leaves the mode and the Boot Reader alone (R71). -/
theorem State.endEntry_mode (s : State) (e : TrackEntry) (x : EntryEnd) :
    (s.endEntry e x).mc.mode = s.mc.mode ∧ (s.endEntry e x).boot = s.boot :=
  (State.dispatchAll_keeps (P := fun t => t.mc.mode = s.mc.mode ∧ t.boot = s.boot)
    (fun t e i h _ _ => by
      obtain ⟨-, -, mode, boot⟩ := t.dispatchEntry_keeps e i
      exact ⟨mode.trans h.1, boot.trans h.2⟩) (s.entryEnded_mode e x)).1

/-- A port reset leaves the mode and the Boot Reader alone until its copy halves end (R92). -/
theorem State.endPortEntries_mode (s : State) (p : PortId) :
    (s.endPortEntries p).mc.mode = s.mc.mode ∧ (s.endPortEntries p).boot = s.boot :=
  State.endPortEntries_keeps (P := fun t => t.mc.mode = s.mc.mode ∧ t.boot = s.boot)
    (fun {t e} _ h => by
      obtain ⟨mode, boot⟩ := t.endEntry_mode e (.fault .portReset)
      exact ⟨mode.trans h.1, boot.trans h.2⟩) ⟨rfl, rfl⟩

/-- The law holds in a port reset when the port has been cleared (R92). -/
theorem BootLaw.cleared {s : State} (law : BootLaw s) (running : s.mc.mode ≠ .booting) (p : PortId) (a : Pair) :
    BootLaw (((s.updPort p fun q => q.beginPulse a).endPortEntries p).updPort p Port.clearForReset) := by
  obtain ⟨mode, boot⟩ := (s.updPort p fun q => q.beginPulse a).endPortEntries_mode p
  exact law.of_running running (mode ▸ running) boot

/-- What every atom keeps beside the boot law, a run of atoms keeps. -/
theorem Atoms.keep {L : State → Prop} (h : ∀ {s t : State}, Atom s t → BootLaw s → L s → L t) {s t : State} (a : Atoms s t)
    (boot : BootLaw s) (law : L s) : L t := by
  have both : BootLaw t ∧ L t := by
    induction a with
    | refl => exact ⟨boot, law⟩
    | tail _ atom ih => exact ⟨ih.1.atom atom, h atom ih.1 ih.2⟩
  exact both.2

theorem BootLaw.resetPort {s : State} (law : BootLaw s) (running : s.mc.mode ≠ .booting) (p : PortId) (a : Pair) :
    BootLaw (s.resetPort p a) :=
  BootLaw.atoms (.resetPort s p a) (law.cleared running p a)

theorem boot_kept : Alone BootLaw fun _ s => BootLaw s ∧ s.mc.mode ≠ .booting where
  reset _ _ _ _ := .atReset _ _ _
  linkReset running _ law := law.of_running running running rfl
  atom a _ law := law.atom a
  placed _ credit _ _ law :=
    have running := law.running_of_credit (pool := .management) credit
    ⟨law.of_running running running rfl, running⟩
  taken a _ law := ⟨law.1.atom a, a.running law.2⟩
  answered _ _ _ _ law := law.1.of_running law.2 law.2 rfl
  drains _ _ _ _ _ _ law := law.1.of_running law.2 law.2 rfl
  resets _ _ _ law := law.1.resetPort law.2 _ _

theorem BootLaw.queue {s : State} (law : BootLaw s) (cs : List Instr) : BootLaw { s with pending := cs } :=
  law.of_same rfl rfl rfl ⟨rfl, rfl, rfl, rfl, rfl⟩ id fun _ => rfl

/-- Settles O53: what can change in BOOTING is the boot itself and what no request or command has brought about. -/
theorem stepKeepsTheBootLaw : Obligations.StepKeepsTheBootLaw := fun _ _ law next =>
  boot_kept.step (fun cs h => h.queue cs) next law

end Sys2Proof.Machine
end

section
/-! PROOFS. The invariants of the windows: their ranges stay apart, and their use counts count the tracking entries bound to them. -/

namespace Sys2Proof.Machine

/-! ## What windows reserve (R10) -/

/-- What a window reserves is decided by its state, its contents and its pending record (R10). -/
theorem Window.reserved_eq {w v : Window} (state : v.state = w.state) (contents : v.contents = w.contents)
    (pending : v.pending = w.pending) : v.reserved = w.reserved := by
  simp [Window.reserved, Window.inUse, Window.pendingRanges, state, contents, pending]

theorem Window.reserved_free {w : Window} (h : w.state = .free) : w.reserved = [] := by simp [Window.reserved, Window.inUse, h]

theorem Window.reserved_live {w : Window} (h : w.state = .live) : w.reserved = [w.contents.range] := by
  simp [Window.reserved, Window.inUse, Window.pendingRanges, h]

/-- A DRAINING window with a replacement pending reserves its current range and the pending one (R2, R10). -/
theorem Window.reserved_pending {w : Window} {c : Contents} {l : BitVec 8} (h : w.state = .draining)
    (pending : w.pending = some ⟨.replacement c, l⟩) : w.reserved = [w.contents.range, c.range] := by
  simp [Window.reserved, Window.inUse, Window.pendingRanges, h, pending]

/-- A window in use reserves its current range (R10). -/
theorem Window.range_mem_reserved {w : Window} (h : w.state ≠ .free) : w.contents.range ∈ w.reserved := by
  simp [Window.reserved, Window.inUse, h]

theorem Window.reserved_drain (w : Window) (change : PendingChange) (limit : BitVec 8) :
    (w.drain change limit).reserved = w.contents.range ::
      match change with
      | .replacement c => [c.range]
      | .close => [] := by
  cases change <;> simp [Window.reserved, Window.inUse, Window.pendingRanges, Window.drain]

theorem Window.reserved_loaded (c : Contents) : (Window.loaded c).reserved = [c.range] := Window.reserved_live rfl

theorem rangesMeet_comm (a b : AddrRange) : rangesMeet a b = rangesMeet b a := Bool.and_comm _ _

/-- Windows that reserve no more than before stay apart (R10). -/
theorem OverlapLaw.of_subset {s t : State} (law : OverlapLaw s) (h : ∀ i, (t.window i).reserved ⊆ (s.window i).reserved) :
    OverlapLaw t := fun i j a b ij ha hb => law i j a b ij (h i ha) (h j hb)

/-- One window takes ranges that meet those of no other (R10). -/
theorem OverlapLaw.setWindow {s : State} {i : WindowIdx} {w : Window} (law : OverlapLaw s)
    (apart : ∀ r ∈ w.reserved, r ∈ (s.window i).reserved ∨ ∀ j, j ≠ i → ∀ x ∈ (s.window j).reserved, rangesMeet r x = false) :
    OverlapLaw (s.setWindow i w) := by
  have one : ∀ j, j ≠ i → ∀ r ∈ w.reserved, ∀ x ∈ (s.window j).reserved, rangesMeet r x = false := fun j ji r hr x hx =>
    (apart r hr).elim (fun old => law i j r x (Ne.symm ji) old hx) fun h => h j ji x hx
  intro j k a b jk ha hb
  rw [State.window_setWindow] at ha hb
  split at ha <;> split at hb
  next hj hk => exact absurd (hj.symm.trans hk) jk
  next hk => exact one k (Ne.symm hk) a ha b hb
  next hj _ => exact rangesMeet_comm a b ▸ one j (Ne.symm hj) b hb a ha
  next => exact law j k a b jk ha hb

theorem OverlapLaw.of_window {s t : State} (law : OverlapLaw s) (h : t.window = s.window) : OverlapLaw t :=
  law.of_subset fun i => by rw [h]; exact List.Subset.refl _

/-- An install that is due takes the pending range, or none (R23, R24). -/
theorem OverlapLaw.installFor {s : State} {d : DeferredOp} {change : PendingChange} (due : s.installDue = some (d, change))
    (law : OverlapLaw s) : OverlapLaw (s.installFor d change) := by
  obtain ⟨-, draining, -, l, pending⟩ := State.installDue_some due
  cases change with
  | replacement c =>
    refine OverlapLaw.setWindow (i := d.index) (w := (s.window d.index).install c) law fun r hr => .inl ?_
    rw [Window.reserved_live rfl] at hr
    rw [State.window_endDeferred, Window.reserved_pending draining pending, List.mem_singleton.1 hr]
    simp [Window.install]
  | close =>
    refine OverlapLaw.setWindow (i := d.index) (w := (s.window d.index).close) law fun r hr => ?_
    simp [Window.reserved_free (w := (s.window d.index).close) rfl] at hr

theorem OverlapLaw.installPending {s : State} (law : OverlapLaw s) : OverlapLaw s.installPending :=
  State.installPending_keeps law fun _ _ due => law.installFor due

/-- A use count is not part of what a window reserves (R10). -/
theorem OverlapLaw.count {s : State} (law : OverlapLaw s) (i : WindowIdx) (n : Nat) :
    OverlapLaw (s.setWindow i { s.window i with useCount := n }) :=
  law.setWindow fun _ hr => .inl (Window.reserved_eq (w := s.window i) (v := { s.window i with useCount := n }) rfl rfl rfl ▸ hr)

theorem State.answerEntry_window (s : State) (e : TrackEntry) (x : EntryEnd) : (s.answerEntry e x).window = s.window := by
  unfold State.answerEntry
  split
  · cases x <;> rfl
  · rfl

theorem OverlapLaw.entryEnded {s : State} (law : OverlapLaw s) (e : TrackEntry) (x : EntryEnd) : OverlapLaw (s.entryEnded e x) := by
  have answered := law.of_window (s.answerEntry_window e x)
  exact OverlapLaw.installPending (OverlapLaw.count (s := s.answerEntry e x) answered e.window _)

theorem OverlapLaw.dispatchEntry {s : State} (law : OverlapLaw s) (e : QueueEntry) (i : TrackIdx) : OverlapLaw (s.dispatchEntry e i) := by
  have counted := law.count e.window ((s.window e.window).useCount + 1)
  unfold State.dispatchEntry
  simp only
  split <;> exact counted

/-- The windows of an image have ranges apart from each other, and here from all others (R185, check 5). -/
theorem OverlapLaw.applyWindows {ws : List (WindowIdx × Contents)} (distinct : windowsDistinct ws = true) {s : State} (law : OverlapLaw s)
    (apart : ∀ w ∈ ws, ∀ j, ∀ r ∈ (s.window j).reserved, rangesMeet w.2.range r = false) :
    OverlapLaw (ws.foldl State.applyWindow s) := by
  induction ws generalizing s with
  | nil => exact law
  | cons w ws ih =>
    simp only [windowsDistinct, Bool.and_eq_true, List.all_eq_true, bne_iff_ne, Bool.not_eq_true'] at distinct
    refine ih distinct.2 (law.setWindow fun r hr => .inr fun j _ x hx => ?_) fun v hv j r hr => ?_
    · rw [Window.reserved_loaded, List.mem_singleton] at hr
      exact hr ▸ apart w (by simp) j x hx
    · rw [State.applyWindow, State.window_setWindow] at hr
      split at hr
      · rw [Window.reserved_loaded, List.mem_singleton] at hr
        rw [hr, rangesMeet_comm]
        exact (distinct.1 v hv).2
      · exact apart v (by simp [hv]) j r hr

/-- The ports and the settings of an image leave the windows as its window records make them (R186). -/
theorem State.window_applyImage (s : State) (im : BootImage) :
    (s.applyImage im).window = (im.windows.foldl State.applyWindow s).window := by
  have ports : ∀ (t : State) p, (t.applyPort im.ports p).window = t.window := fun t p => by
    unfold State.applyPort
    split <;> rfl
  show ((((((im.windows.foldl State.applyWindow s).applyPort im.ports 0).applyPort im.ports 1).applyPort im.ports 2).applyPort
    im.ports 3).window) = _
  rw [ports, ports, ports, ports]

theorem OverlapLaw.linkReset {s : State} (law : OverlapLaw s) : OverlapLaw s.linkResetBlocks := by
  refine law.of_subset fun i r hr => ?_
  have reset : s.linkResetBlocks.window i = (s.window i).linkReset := State.window_mapWindows _ _ _
  rw [reset] at hr
  by_cases free : (s.window i).state = .free
  · rw [Window.reserved_free (by simp [Window.linkReset, free])] at hr
    cases hr
  · have live : (s.window i).linkReset.state = .live := by
      cases h : (s.window i).state <;> simp_all [Window.linkReset]
    rw [Window.reserved_live live, List.mem_singleton] at hr
    exact hr ▸ Window.range_mem_reserved free

theorem OverlapLaw.atom {s t : State} (a : Atom s t) (boot : BootLaw s) (law : OverlapLaw s) : OverlapLaw t := by
  cases a with
  | neutral h =>
    refine law.of_subset fun i => ?_
    obtain ⟨n, hn⟩ := h.windows i
    rw [Window.reserved_eq (w := s.window i) (by rw [hn]) (by rw [hn]) (by rw [hn])]
    exact List.Subset.refl _
  | dispatch => exact law.dispatchEntry _ _
  | entryEnded x => exact law.entryEnded _ x
  | install due => exact law.installFor due
  | @revert d _ draining =>
    refine OverlapLaw.setWindow (i := d.index) (w := (s.window d.index).revert) law fun r hr => .inl ?_
    rw [Window.reserved_live rfl, List.mem_singleton] at hr
    exact hr ▸ Window.range_mem_reserved (by simp [draining])
  | @load i c _ free apart =>
    refine law.setWindow fun r hr => .inr fun j ji x hx => ?_
    rw [Window.reserved_loaded, List.mem_singleton] at hr
    exact hr ▸ (s.overlaps_false c none).1 apart j (by simp) x hx
  | @replace i c live unused none apart =>
    refine OverlapLaw.setWindow (w := (s.window i).install c) law fun r hr => .inr fun j ji x hx => ?_
    rw [Window.reserved_live rfl, List.mem_singleton] at hr
    exact hr ▸ (s.overlaps_false c (some i)).1 apart j (by simpa using Ne.symm ji) x hx
  | @close i =>
    refine OverlapLaw.setWindow (w := (s.window i).close) law fun r hr => ?_
    simp [Window.reserved_free (w := (s.window i).close) rfl] at hr
  | @bind f b i =>
    exact OverlapLaw.setWindow (w := (s.window i).hit) law fun _ hr => .inl
      (Window.reserved_eq (w := s.window i) (v := (s.window i).hit) rfl rfl rfl ▸ hr)
  | @responseSent r =>
    refine law.of_window ?_
    unfold State.responseSent
    cases r.pool <;> (split <;> rfl)
  | bootLoads im underWay distinct =>
    have windows := boot.windows (boot.booting_of_underWay underWay)
    have none : ∀ j, (s.window j).reserved = [] := fun j => Window.reserved_free (windows j).1
    have loaded := law.applyWindows distinct fun _ _ j r hr => by simp [none j] at hr
    exact loaded.of_window (s.window_applyImage im)
  | @pulseEnds p u => cases u.answerTo <;> exact law
  | _ => exact law

/-- The ends of the entries of a port keep windows apart (R74). -/
theorem OverlapLaw.endEntry {s : State} (law : OverlapLaw s) (e : TrackEntry) (x : EntryEnd) : OverlapLaw (s.endEntry e x) := by
  rw [State.endEntry_eq]
  exact (State.dispatchAll_keeps (P := OverlapLaw) (fun _ e i h _ _ => h.dispatchEntry e i) (law.entryEnded e x)).1

/-- A drain reserves the pending range, which meets those of no other window (R10, R18). -/
theorem OverlapLaw.startDrain {s : State} (law : OverlapLaw s) (f : MgmtFrame) {i : WindowIdx} {change : PendingChange}
    (limit : BitVec 8) (live : (s.window i).state = .live)
    (apart : ∀ c, change = .replacement c → s.overlaps c (some i) = false) : OverlapLaw (s.startDrain f i change limit) := by
  refine OverlapLaw.setWindow (w := (s.window i).drain change limit) law fun r hr => ?_
  rw [Window.reserved_drain, List.mem_cons] at hr
  rcases hr with rfl | hr
  · exact .inl (Window.range_mem_reserved (by simp [live]))
  · cases change with
    | replacement c =>
      refine .inr fun j ji x hx => ?_
      rw [List.mem_singleton.1 hr]
      exact (s.overlaps_false c (some i)).1 (apart c rfl) j (by simpa using Ne.symm ji) x hx
    | close => cases hr

theorem OverlapLaw.atReset (s : State) (cause : CauseRecord) (level : Bool) : OverlapLaw (s.atReset cause level) := by
  intro i j a b _ ha
  have free : ((s.atReset cause level).window i).state = .free := by
    simp [State.window, State.atReset, State.reset, Window.initial]
  simp [Window.reserved_free free] at ha

theorem overlap_kept : Kept BootLaw (fun _ s => BootLaw s ∧ s.mc.mode ≠ .booting) OverlapLaw fun _ => OverlapLaw where
  reset _ _ _ _ := .atReset _ _ _
  linkReset _ _ law := law.linkReset
  atom a boot law := law.atom a boot
  placed _ _ _ _ law := law
  taken a boot law := law.atom a boot.1
  answered _ _ _ _ law := law
  drains _ live _ _ apart _ law := law.startDrain _ _ live apart
  resets {f s p} _ _ boot law := by
    have ended := State.endPortEntries_keeps (P := OverlapLaw) (s := s.updPort p fun q => q.beginPulse f.pair) (p := p)
      (fun _ h => h.endEntry _ _) law
    exact Atoms.keep OverlapLaw.atom (.resetPort s p f.pair) (boot.1.cleared boot.2 p f.pair) ended

/-- Settles O55: a window takes a range only after the overlap check, and every other change takes none. -/
theorem stepKeepsWindowsApart : Obligations.StepKeepsWindowsApart := fun _ _ boot law next =>
  ((Kept.and boot_kept overlap_kept).step (fun cs h => ⟨h.1.queue cs, h.2⟩) next ⟨boot, law⟩).2

end Sys2Proof.Machine
end

section
/-! PROOFS. The invariant of the use counts. -/

namespace Sys2Proof.Machine

/-- The law of the use counts but for the use count of a DRAINING window: what holds within the end of an entry, before the install that
its window's use count allows (R11, R23, R24, R71). -/
structure UseCountBase (s : State) : Prop where
  indexes : (s.tracking.map TrackEntry.index).Nodup
  counts : ∀ i, (s.window i).useCount = s.tracking.countP fun e => e.window == i
  free : ∀ i, (s.window i).state = .free → (s.window i).useCount = 0
  bound : ∀ e ∈ s.requestQueue, (s.window e.window).state ≠ .free
  draining : ∀ i, (s.window i).state = .draining ↔ ∃ d, s.deferred = some d ∧ d.index = i
  pending : ∀ i, (s.window i).state = .draining → (s.window i).pending.isSome = true
  locks : ∀ p i, (s.port p).lock = some i → ∃ e ∈ s.tracking, e.index = i ∧ e.port = p

/-- The law holds exactly when it holds but for the use count of a DRAINING window, and no install is due (R11, R23, R24). -/
theorem useCountLaw_iff (s : State) : UseCountLaw s ↔ UseCountBase s ∧ s.installDue = none := by
  constructor
  · intro law
    refine ⟨⟨law.indexes, law.counts, law.free, law.bound, law.draining, fun i h => (law.waiting i h).2, law.locks⟩, ?_⟩
    by_contra due
    obtain ⟨⟨d, change⟩, due⟩ := Option.ne_none_iff_exists'.1 due
    obtain ⟨-, draining, unused, -⟩ := State.installDue_some due
    have := (law.waiting _ draining).1
    omega
  · rintro ⟨base, due⟩
    refine ⟨base.indexes, base.counts, base.free, base.bound, base.draining, fun i h => ⟨?_, base.pending i h⟩, base.locks⟩
    obtain ⟨d, deferred, rfl⟩ := (base.draining i).1 h
    obtain ⟨r, pending⟩ := Option.isSome_iff_exists.1 (base.pending _ h)
    by_contra unused
    have : (s.window d.index).useCount = 0 := by omega
    simp [State.installDue, deferred, h, this, pending] at due

/-- The base law looks at windows but for their contents and hit counts, at the window of the deferred operation, at the windows of queue
entries, at the keys of tracking entries and at the SWAP locks. -/
theorem UseCountBase.of_same {s t : State} (base : UseCountBase s)
    (window : ∀ i, (t.window i).state = (s.window i).state ∧ (t.window i).useCount = (s.window i).useCount ∧
      (t.window i).pending = (s.window i).pending)
    (deferred : t.deferred.map DeferredOp.index = s.deferred.map DeferredOp.index) (queue : t.requestQueue ⊆ s.requestQueue)
    (tracking : t.tracking = s.tracking) (lock : ∀ p, (t.port p).lock = (s.port p).lock) : UseCountBase t where
  indexes := tracking ▸ base.indexes
  counts i := by rw [(window i).2.1, tracking, base.counts]
  free i h := by
    rw [(window i).1] at h
    rw [(window i).2.1, base.free i h]
  bound e he := by
    rw [(window _).1]
    exact base.bound e (queue he)
  draining i := by
    rw [(window i).1, base.draining]
    have : ∀ x : Option DeferredOp, (∃ d, x = some d ∧ d.index = i) ↔ x.map DeferredOp.index = some i := fun x => by
      simp [Option.map_eq_some_iff]
    rw [this, this, deferred]
  pending i h := by
    rw [(window i).1] at h
    rw [(window i).2.2]
    exact base.pending i h
  locks p i h := by
    rw [tracking]
    exact base.locks p i (lock p ▸ h)

/-- The same for the whole law. -/
theorem UseCountLaw.of_same {s t : State} (law : UseCountLaw s)
    (window : ∀ i, (t.window i).state = (s.window i).state ∧ (t.window i).useCount = (s.window i).useCount ∧
      (t.window i).pending = (s.window i).pending)
    (deferred : t.deferred.map DeferredOp.index = s.deferred.map DeferredOp.index) (queue : t.requestQueue ⊆ s.requestQueue)
    (tracking : t.tracking = s.tracking) (lock : ∀ p, (t.port p).lock = (s.port p).lock) : UseCountLaw t := by
  have base := ((useCountLaw_iff s).1 law).1.of_same window deferred queue tracking lock
  refine ⟨base.indexes, base.counts, base.free, base.bound, base.draining, fun i h => ?_, base.locks⟩
  rw [(window i).1] at h
  rw [(window i).2.1, (window i).2.2]
  exact law.waiting i h

/-- Nothing that the law looks at changes. -/
theorem UseCountLaw.of_eq {s t : State} (law : UseCountLaw s) (window : t.window = s.window) (deferred : t.deferred = s.deferred)
    (queue : t.requestQueue = s.requestQueue) (tracking : t.tracking = s.tracking) (port : t.port = s.port) : UseCountLaw t :=
  law.of_same (fun i => by simp [window]) (by rw [deferred]) (by simp [queue]) tracking fun p => by rw [port]

/-! ## The end of a drain and of an entry -/

/-- A window that leaves DRAINING, or was never in it, with the deferred window operation gone, if there was one (R17, R19, R23, R24,
R26). -/
theorem UseCountLaw.settled {s t : State} {i : WindowIdx} {w : Window} (base : UseCountBase s)
    (window : t.window = (s.setWindow i w).window) (state : w.state ≠ .draining) (count : w.useCount = (s.window i).useCount)
    (unused : w.state = .free → w.useCount = 0) (alone : ∀ d, s.deferred = some d → d.index = i) (deferred : t.deferred = none)
    (queue : ∀ e ∈ t.requestQueue, e ∈ s.requestQueue ∧ (e.window = i → w.state ≠ .free))
    (tracking : t.tracking = s.tracking) (port : t.port = s.port) : UseCountLaw t := by
  have self : t.window i = w := by rw [window, State.window_setWindow_self]
  have others : ∀ j, j ≠ i → t.window j = s.window j := fun j ji => by rw [window, State.window_setWindow, if_neg (Ne.symm ji)]
  have still : ∀ j, (t.window j).state ≠ .draining := fun j draining => by
    by_cases ji : j = i
    · exact state (self ▸ ji ▸ draining)
    · rw [others j ji] at draining
      obtain ⟨d, hd, rfl⟩ := (base.draining j).1 draining
      exact ji (alone d hd)
  refine ⟨tracking ▸ base.indexes, fun j => ?_, fun j free => ?_, fun e he => ?_, fun j => ?_, fun j h => absurd h (still j),
    fun p j h => ?_⟩
  · rw [tracking, ← base.counts]
    by_cases ji : j = i
    · rw [ji, self, count]
    · rw [others j ji]
  · by_cases ji : j = i
    · rw [ji, self] at free ⊢
      exact unused free
    · rw [others j ji] at free ⊢
      exact base.free j free
  · by_cases ei : e.window = i
    · rw [ei, self]
      exact (queue e he).2 ei
    · rw [others _ ei]
      exact base.bound e (queue e he).1
  · simp [still j, deferred]
  · rw [tracking]
    exact base.locks p j (port ▸ h)

/-- A replacement leaves queue entries of other windows, and its window in use (R17, R23, R25). -/
theorem UseCountLaw.installNow {s : State} {i : WindowIdx} (base : UseCountBase s) (c : Contents)
    (alone : ∀ d, s.deferred = some d → d.index = i) : UseCountLaw (s.endDeferred.installNow i c) :=
  .settled (w := (s.window i).install c) base rfl (by simp [Window.install]) rfl (by simp [Window.install]) alone rfl
    (fun e he => ⟨(List.mem_filter.1 he).1, fun _ => by simp [Window.install]⟩) rfl rfl

/-- A close removes the queue entries of its window (R19, R24). -/
theorem UseCountLaw.closeNow {s : State} {i : WindowIdx} (base : UseCountBase s) (unused : (s.window i).useCount = 0)
    (alone : ∀ d, s.deferred = some d → d.index = i) : UseCountLaw (s.endDeferred.closeNow i) :=
  .settled (w := (s.window i).close) base rfl (by simp [Window.close]) rfl (fun _ => unused) alone rfl
    (fun e he => by
      obtain ⟨mem, other⟩ := List.mem_filter.1 he
      exact ⟨mem, fun same => by simp [same] at other⟩) rfl rfl

/-- The install that is due ends the drain (R23, R24). -/
theorem UseCountBase.installFor {s : State} {d : DeferredOp} {change : PendingChange} (base : UseCountBase s)
    (due : s.installDue = some (d, change)) : UseCountLaw (s.installFor d change) := by
  obtain ⟨deferred, draining, unused, -⟩ := State.installDue_some due
  have alone : ∀ d', s.deferred = some d' → d'.index = d.index := fun d' h => by
    rw [deferred] at h
    cases h
    rfl
  cases change with
  | replacement c => exact (UseCountLaw.installNow base c alone).of_eq rfl rfl rfl rfl rfl
  | close => exact (UseCountLaw.closeNow base unused alone).of_eq rfl rfl rfl rfl rfl

/-- The install that an entry's end allows restores the law (R11, R71). -/
theorem UseCountBase.installPending {s : State} (base : UseCountBase s) : UseCountLaw s.installPending := by
  by_cases due : s.installDue = none
  · rw [State.installPending_none due]
    exact (useCountLaw_iff s).2 ⟨base, due⟩
  · obtain ⟨⟨d, change⟩, due⟩ := Option.ne_none_iff_exists'.1 due
    simp only [State.installPending, due]
    exact base.installFor due

/-- The tracking entries without entry e, and how many of them are bound to window i (R11, R51). -/
theorem countP_without {es : List TrackEntry} {e : TrackEntry} (indexes : (es.map TrackEntry.index).Nodup) (tracked : e ∈ es)
    (test : TrackEntry → Bool) :
    (es.filter fun x => x.index ≠ e.index).countP test + (if test e then 1 else 0) = es.countP test := by
  induction es with
  | nil => cases tracked
  | cons a es ih =>
    obtain ⟨fresh, indexes⟩ := List.nodup_cons.1 indexes
    rcases List.mem_cons.1 tracked with rfl | tracked
    · have others : es.filter (fun x => x.index ≠ e.index) = es :=
        List.filter_eq_self.2 fun x hx => by
          have : x.index ≠ e.index := fun same => fresh (same ▸ List.mem_map_of_mem hx)
          simpa using this
      simp only [List.filter_cons, ne_eq, not_true, decide_false, Bool.false_eq_true, if_false, List.countP_cons]
      rw [← others]
      simp
    · have other : a.index ≠ e.index := fun same => fresh (same ▸ List.mem_map_of_mem tracked)
      rw [List.filter_cons_of_pos (by simpa using other), List.countP_cons, List.countP_cons, ← ih indexes tracked]
      omega

/-- An entry that is not entry e of its port keeps its SWAP lock when entry e ends (R68, R71). -/
theorem Port.lock_released (q : Port) (e : TrackEntry) (i : TrackIdx) (h : ((q.releaseFrom e).unlock e.index).lock = some i) :
    q.lock = some i ∧ i ≠ e.index := by
  have same : (q.releaseFrom e).lock = q.lock := (PortMove.releaseFrom q e).lock
  unfold Port.unlock at h
  split at h
  · cases h
  next other => exact ⟨same ▸ h, fun eq => other (eq ▸ h)⟩

/-- The answer to an entry touches the link and the Notice Unit alone (R69, R70). -/
theorem State.answerEntry_same (s : State) (e : TrackEntry) (x : EntryEnd) :
    (s.answerEntry e x).deferred = s.deferred ∧ (s.answerEntry e x).requestQueue = s.requestQueue ∧
    (s.answerEntry e x).tracking = s.tracking ∧ (s.answerEntry e x).tags = s.tags ∧ (s.answerEntry e x).mgmtQueue = s.mgmtQueue ∧
    (s.answerEntry e x).port = s.port ∧ (s.answerEntry e x).window = s.window := by
  unfold State.answerEntry
  split
  · cases x <;> exact ⟨rfl, rfl, rfl, rfl, rfl, rfl, rfl⟩
  · exact ⟨rfl, rfl, rfl, rfl, rfl, rfl, rfl⟩

/-- The end of an entry before the install that it allows: its answer, its slot and SWAP lock, the entry and its use of its window
(R71). -/
def State.entryOut (s : State) (e : TrackEntry) (x : EntryEnd) : State :=
  let u := ((s.answerEntry e x).updPort e.port fun q => (q.releaseFrom e).unlock e.index).dropEntry e.index
  u.setWindow e.window (u.window e.window).release

theorem State.entryEnded_eq (s : State) (e : TrackEntry) (x : EntryEnd) :
    s.entryEnded e x = (s.entryOut e x).installPending.reportTracking := rfl

theorem State.entryOut_window (s : State) (e : TrackEntry) (x : EntryEnd) (i : WindowIdx) :
    (s.entryOut e x).window i = if e.window = i then (s.window i).release else s.window i := by
  obtain ⟨-, -, -, -, -, -, window⟩ := s.answerEntry_same e x
  simp only [State.entryOut, State.window_setWindow, State.window_dropEntry, State.window_updPort, window]
  split
  · simp_all
  · rfl

theorem State.entryOut_same (s : State) (e : TrackEntry) (x : EntryEnd) :
    (s.entryOut e x).deferred = s.deferred ∧ (s.entryOut e x).requestQueue = s.requestQueue ∧
    (s.entryOut e x).tracking = s.tracking.filter (fun a => a.index ≠ e.index) ∧ (s.entryOut e x).tags = s.tags ∧
    (s.entryOut e x).mgmtQueue = s.mgmtQueue ∧
    ∀ p, (s.entryOut e x).port p = if e.port = p then ((s.port p).releaseFrom e).unlock e.index else s.port p := by
  obtain ⟨deferred, queue, tracking, tags, mgmt, port, -⟩ := s.answerEntry_same e x
  refine ⟨deferred, queue, ?_, tags, mgmt, fun p => ?_⟩
  · simp only [State.entryOut, State.setWindow_tracking, State.dropEntry, State.updPort_tracking, tracking]
  · simp only [State.entryOut, State.port_setWindow, State.port_dropEntry, State.port_updPort, port]
    split
    · simp_all
    · rfl

/-- The end of an entry takes it from its window's count (R11, R71). -/
theorem UseCountLaw.entryOut {s : State} {e : TrackEntry} (law : UseCountLaw s) (tracked : e ∈ s.tracking) (x : EntryEnd) :
    UseCountBase (s.entryOut e x) := by
  obtain ⟨deferred, queue, tracking, -, -, port⟩ := s.entryOut_same e x
  have window := s.entryOut_window e x
  have shape : ∀ i, ((s.entryOut e x).window i).state = (s.window i).state ∧
      ((s.entryOut e x).window i).pending = (s.window i).pending := fun i => by
    rw [window]
    split <;> exact ⟨rfl, rfl⟩
  have counts : ∀ i, ((s.entryOut e x).window i).useCount + (if e.window == i then 1 else 0) = (s.window i).useCount := fun i => by
    rw [window]
    by_cases same : e.window = i
    · have used : 1 ≤ (s.window i).useCount := by
        rw [law.counts]
        exact List.countP_pos_iff.2 ⟨e, tracked, by simpa using same⟩
      simp only [same, if_true, beq_self_eq_true, Window.release]
      omega
    · simp [same]
  refine ⟨?_, fun i => ?_, fun i h => ?_, fun a ha => ?_, fun i => ?_, fun i h => ?_, fun p i h => ?_⟩
  · rw [tracking]
    exact law.indexes.sublist (List.filter_sublist.map _)
  · have before := counts i
    rw [law.counts, ← countP_without law.indexes tracked] at before
    rw [tracking]
    exact Nat.add_right_cancel before
  · have := counts i
    rw [(shape i).1] at h
    have := law.free i h
    omega
  · rw [(shape _).1]
    exact law.bound a (queue ▸ ha)
  · rw [(shape i).1, deferred]
    exact law.draining i
  · rw [(shape i).1] at h
    rw [(shape i).2]
    exact (law.waiting i h).2
  · have held : (s.port p).lock = some i ∧ (e.port = p → i ≠ e.index) := by
      rw [port] at h
      split at h
      · obtain ⟨held, other⟩ := Port.lock_released _ _ _ h
        exact ⟨held, fun _ => other⟩
      next elsewhere => exact ⟨h, fun here => absurd here elsewhere⟩
    obtain ⟨a, mem, index, home⟩ := law.locks p i held.1
    refine ⟨a, ?_, index, home⟩
    rw [tracking]
    refine List.mem_filter.2 ⟨mem, ?_⟩
    have : a.index ≠ e.index := fun same => by
      have : a = e := List.inj_on_of_nodup_map law.indexes mem tracked same
      exact held.2 (this ▸ home) (index ▸ same)
    simpa using this

theorem UseCountLaw.entryEnded {s : State} {e : TrackEntry} (law : UseCountLaw s) (tracked : e ∈ s.tracking) (x : EntryEnd) :
    UseCountLaw (s.entryEnded e x) :=
  (law.entryOut tracked x).installPending.of_eq rfl rfl rfl rfl rfl

/-! ## Dispatch -/

/-- The index that a dispatch takes is free (R51, R52). -/
theorem State.freeIndex_fresh {s : State} {i : TrackIdx} (h : s.freeIndex? = some i) : ∀ x ∈ s.tracking, x.index ≠ i := by
  have := List.find?_some h
  simpa using this

theorem State.dispatchEntry_same (s : State) (e : QueueEntry) (i : TrackIdx) :
    (s.dispatchEntry e i).deferred = s.deferred ∧ (s.dispatchEntry e i).requestQueue = s.requestQueue.erase e ∧
    (s.dispatchEntry e i).tracking = s.tracking ++ [e.track i (s.window e.window).contents] ∧
    (s.dispatchEntry e i).tags = s.tags ∧ (s.dispatchEntry e i).mgmtQueue = s.mgmtQueue ∧ (s.dispatchEntry e i).port = s.port ∧
    (s.dispatchEntry e i).window =
      (s.setWindow e.window { s.window e.window with useCount := (s.window e.window).useCount + 1 }).window := by
  simp only [State.dispatchEntry]
  split <;> exact ⟨rfl, rfl, rfl, rfl, rfl, rfl, rfl⟩

/-- A dispatch adds an entry to its window's count (R11, R43). -/
theorem UseCountLaw.dispatchEntry {s : State} {e : QueueEntry} {i : TrackIdx} (law : UseCountLaw s)
    (oldest : s.oldestDispatchable = some e) (free : s.freeIndex? = some i) : UseCountLaw (s.dispatchEntry e i) := by
  obtain ⟨-, dispatchable, -⟩ := State.oldestDispatchable_some oldest
  have live : (s.window e.window).state = .live := by
    simp only [State.dispatchable, Bool.and_eq_true, beq_iff_eq] at dispatchable
    exact dispatchable.1.1.1
  obtain ⟨deferred, queue, tracking, -, -, port, window⟩ := s.dispatchEntry_same e i
  have read : ∀ j, (s.dispatchEntry e i).window j =
      if e.window = j then { s.window j with useCount := (s.window j).useCount + 1 } else s.window j := fun j => by
    rw [window, State.window_setWindow]
    split
    · simp_all
    · rfl
  have shape : ∀ j, ((s.dispatchEntry e i).window j).state = (s.window j).state ∧
      ((s.dispatchEntry e i).window j).pending = (s.window j).pending := fun j => by
    rw [read]
    split <;> exact ⟨rfl, rfl⟩
  have counts : ∀ j, ((s.dispatchEntry e i).window j).useCount = (s.window j).useCount + (if e.window == j then 1 else 0) := fun j => by
    rw [read]
    by_cases same : e.window = j <;> simp [same]
  refine ⟨?_, fun j => ?_, fun j h => ?_, fun a ha => ?_, fun j => ?_, fun j h => ?_, fun p j h => ?_⟩
  · rw [tracking, List.map_append]
    refine List.nodup_append.2 ⟨law.indexes, List.nodup_singleton _, fun a ha b hb => ?_⟩
    obtain ⟨x, hx, rfl⟩ := List.mem_map.1 ha
    rw [List.mem_singleton.1 hb]
    exact State.freeIndex_fresh free x hx
  · rw [counts, tracking, List.countP_append, law.counts, List.countP_singleton]
    rfl
  · rw [(shape j).1] at h
    have other : e.window ≠ j := fun same => by simp [← same, live] at h
    rw [counts, law.free j h]
    simp [other]
  · rw [(shape _).1]
    exact law.bound a (List.mem_of_mem_erase (queue ▸ ha))
  · rw [(shape j).1, deferred]
    exact law.draining j
  · rw [(shape j).1] at h
    obtain ⟨used, pending⟩ := law.waiting j h
    rw [counts, (shape j).2]
    exact ⟨by omega, pending⟩
  · rw [port] at h
    obtain ⟨a, mem, index, home⟩ := law.locks p j h
    exact ⟨a, tracking ▸ List.mem_append_left _ mem, index, home⟩

/-! ## The other changes -/

/-- A change of an entry that keeps its key keeps what the table holds of it (R51). -/
theorem State.updEntry_map {α : Type} (s : State) (i : TrackIdx) (f : TrackEntry → TrackEntry) (g : TrackEntry → α)
    (keeps : ∀ e, g (f e) = g e) : (s.updEntry i f).tracking.map g = s.tracking.map g := by
  simp only [State.updEntry, List.map_map]
  refine List.map_congr_left fun e _ => ?_
  simp only [Function.comp_apply]
  split
  · exact keeps e
  · rfl

/-- A count over a list of entries depends on what the counted property is computed from. -/
theorem countP_of_map_eq {α β : Type} {as bs : List α} (key : α → β) (test : β → Bool) (h : bs.map key = as.map key) :
    (bs.countP fun x => test (key x)) = as.countP fun x => test (key x) := by
  have : ∀ xs : List α, (xs.countP fun x => test (key x)) = (xs.map key).countP test := fun xs => by
    rw [List.countP_map]
    rfl
  rw [this, this, h]

theorem UseCountLaw.updEntry {s : State} (law : UseCountLaw s) (i : TrackIdx) (f : TrackEntry → TrackEntry)
    (keeps : ∀ e, (f e).key = e.key) : UseCountLaw (s.updEntry i f) := by
  have keys : (s.updEntry i f).tracking.map TrackEntry.key = s.tracking.map TrackEntry.key := s.updEntry_map i f _ keeps
  refine ⟨?_, fun j => ?_, law.free, law.bound, law.draining, law.waiting, fun p j h => ?_⟩
  · have : (s.updEntry i f).tracking.map TrackEntry.index = s.tracking.map TrackEntry.index :=
      s.updEntry_map i f _ fun e => congrArg Prod.fst (keeps e)
    rw [this]
    exact law.indexes
  · rw [State.window_updEntry, law.counts]
    exact (countP_of_map_eq TrackEntry.key (fun k => k.2.2.1 == j) keys).symm
  · obtain ⟨e, mem, index, home⟩ := law.locks p j h
    obtain ⟨e', mem', same⟩ := List.mem_map.1 (keys ▸ List.mem_map_of_mem (f := TrackEntry.key) mem)
    exact ⟨e', mem', (congrArg Prod.fst same).trans index, (congrArg (fun k => k.2.2.2.1) same).trans home⟩

theorem UseCountLaw.neutral {s t : State} (law : UseCountLaw s) (h : Neutral s t) : UseCountLaw t := by
  refine law.of_same (fun i => ?_) ?_ (by simp [h.requestQueue]) h.tracking fun p => (h.ports p).lock
  · obtain ⟨n, hn⟩ := h.windows i
    rw [hn]
    exact ⟨rfl, rfl, rfl⟩
  · have := congrArg (Option.map Prod.fst) h.deferred
    simp only [Option.map_map] at this
    exact this

theorem UseCountLaw.takeLock {s : State} (law : UseCountLaw s) {p : PortId} {i : TrackIdx}
    (own : (∃ e ∈ s.tracking, e.index = i ∧ e.port = p) ∨ (s.port p).lock = some i) :
    UseCountLaw (s.updPort p fun q => { q with lock := some i }) := by
  refine { law with
    indexes := law.indexes, counts := law.counts, free := law.free, bound := law.bound, draining := law.draining,
    waiting := law.waiting, locks := fun q j h => ?_ }
  rw [State.port_updPort] at h
  split at h
  next same =>
    cases h
    exact same ▸ own.elim id (law.locks p i)
  · exact law.locks q j h

/-- A FREE window becomes LIVE with use count 0 (R5, R15). -/
theorem UseCountLaw.load {s : State} (law : UseCountLaw s) {i : WindowIdx} (free : (s.window i).state = .free) (c : Contents) :
    UseCountLaw (s.setWindow i (.loaded c)) := by
  have idle : ∀ j, i = j → (s.window j).useCount = 0 ∧ (s.window j).state ≠ .draining := fun j same => by
    subst same
    exact ⟨law.free i free, by simp [free]⟩
  refine ⟨law.indexes, fun j => ?_, fun j h => ?_, fun e he => ?_, fun j => ?_, fun j h => ?_, law.locks⟩
  · rw [State.setWindow_tracking, ← law.counts, State.window_setWindow]
    split
    next same => exact (idle j same).1.symm
    · rfl
  · rw [State.window_setWindow] at h ⊢
    split_ifs at h ⊢
    · cases h
    · exact law.free j h
  · rw [State.window_setWindow]
    split
    · simp [Window.loaded]
    · exact law.bound e he
  · rw [State.window_setWindow, State.setWindow_deferred, ← law.draining]
    split
    next same => simp [Window.loaded, (idle j same).2]
    · rfl
  · rw [State.window_setWindow] at h ⊢
    split_ifs at h ⊢
    · cases h
    · exact law.waiting j h

/-- Link reset empties the table and ends every drain (R6, R73). -/
theorem UseCountLaw.linkReset (s : State) : UseCountLaw s.linkResetBlocks := by
  have window : ∀ i, s.linkResetBlocks.window i = (s.window i).linkReset := fun i => State.window_mapWindows _ _ _
  have port : ∀ p, s.linkResetBlocks.port p = (s.port p).linkReset := fun p => State.port_mapPorts _ _ _
  have still : ∀ i, (s.linkResetBlocks.window i).state ≠ .draining := fun i => by
    rw [window]
    cases h : (s.window i).state <;> simp [Window.linkReset, h]
  refine ⟨List.nodup_nil, fun i => ?_, fun i _ => ?_, fun e he => absurd he List.not_mem_nil, fun i => ?_,
    fun i h => absurd h (still i), fun p i h => ?_⟩
  · rw [window]
    rfl
  · rw [window]
    rfl
  · exact iff_of_false (still i) (by rintro ⟨d, h, -⟩; cases h)
  · rw [port] at h
    cases h

/-- What windows and ports look like before the first request (R5, R81). -/
theorem UseCountLaw.unused {s : State} (tracking : s.tracking = []) (queue : s.requestQueue = []) (deferred : s.deferred = none)
    (windows : ∀ i, (s.window i).useCount = 0 ∧ (s.window i).state ≠ .draining) (locks : ∀ p, (s.port p).lock = none) :
    UseCountLaw s where
  indexes := by simp [tracking]
  counts i := by simp [tracking, (windows i).1]
  free i _ := (windows i).1
  bound e he := by simp [queue] at he
  draining i := iff_of_false (windows i).2 (by simp [deferred])
  waiting i h := absurd h (windows i).2
  locks p i h := by simp [locks p] at h

/-- The SWAP lock is no setting of a port record (R186). -/
theorem BootImage.applyTo_keeps (im : BootImage) (p : PortId) (q : Port) :
    (im.applyTo p q).lock = q.lock ∧ (im.applyTo p q).pulse = q.pulse := by
  have enabled : ∀ q : Port, (q.enable false).lock = q.lock ∧ (q.enable false).pulse = q.pulse := fun q => by
    unfold Port.enable
    simp only
    split
    · exact ⟨rfl, rfl⟩
    · exact ⟨rfl, rfl⟩
  unfold BootImage.applyTo Port.applyRecord
  split
  · split
    · exact enabled _
    all_goals exact ⟨rfl, rfl⟩
  · exact ⟨rfl, rfl⟩

/-- Windows that a list of image records names become LIVE with use count 0 (R5, R186). -/
theorem State.applyWindows_idle (ws : List (WindowIdx × Contents)) {s : State}
    (h : ∀ i, (s.window i).useCount = 0 ∧ (s.window i).state ≠ .draining) (i : WindowIdx) :
    ((ws.foldl State.applyWindow s).window i).useCount = 0 ∧ ((ws.foldl State.applyWindow s).window i).state ≠ .draining := by
  induction ws generalizing s with
  | nil => exact h i
  | cons w ws ih =>
    refine ih fun j => ?_
    rw [State.applyWindow, State.window_setWindow]
    split
    · simp [Window.loaded]
    · exact h j

theorem UseCountLaw.finishBoot {s : State} (law : UseCountLaw s) (r : BootResult) : UseCountLaw (s.finishBoot r) :=
  law.of_eq rfl rfl rfl rfl rfl

theorem UseCountLaw.bootLoads {s : State} (boot : BootLaw s) (law : UseCountLaw s) (booting : s.mc.mode = .booting) (im : BootImage) :
    UseCountLaw ((s.applyImage im).finishBoot .loaded) := by
  obtain ⟨queue, tracking, -⟩ := boot.queues booting
  have keeps : (s.applyImage im).tracking = s.tracking ∧ (s.applyImage im).requestQueue = s.requestQueue ∧
      (s.applyImage im).deferred = s.deferred :=
    ⟨State.applyImage_keeps (g := State.tracking) (fun _ _ _ => rfl) (fun _ _ _ => rfl) (fun _ _ _ => rfl) _ _,
      State.applyImage_keeps (g := State.requestQueue) (fun _ _ _ => rfl) (fun _ _ _ => rfl) (fun _ _ _ => rfl) _ _,
      State.applyImage_keeps (g := State.deferred) (fun _ _ _ => rfl) (fun _ _ _ => rfl) (fun _ _ _ => rfl) _ _⟩
  obtain ⟨tracking', queue', deferred'⟩ := keeps
  refine UseCountLaw.finishBoot (UseCountLaw.unused (s := s.applyImage im) (tracking'.trans tracking) (queue'.trans queue)
    (deferred'.trans (boot.deferred booting))
    (fun i => ?_) fun p => ?_) _
  · rw [State.window_applyImage]
    refine State.applyWindows_idle _ (fun j => ?_) i
    obtain ⟨free, count⟩ := boot.windows booting j
    exact ⟨count, by simp [free]⟩
  · rw [State.port_applyImage, (im.applyTo_keeps p _).1]
    by_contra held
    obtain ⟨i, held⟩ := Option.ne_none_iff_exists'.1 held
    obtain ⟨e, mem, -⟩ := law.locks p i held
    simp [tracking] at mem

/-- The end of a pulse leaves the SWAP lock alone (R93). -/
theorem Port.endPulse_lock (q : Port) (modeStop : Bool) : (q.endPulse modeStop).lock = q.lock := by
  unfold Port.endPulse
  cases modeStop
  · rfl
  · exact (Port.enterStopped_keeps { q with pulse := none }).2.2.2.1

theorem State.updPort_lock {s : State} {p : PortId} {f : Port → Port} (h : (f (s.port p)).lock = (s.port p).lock) (q : PortId) :
    ((s.updPort p f).port q).lock = (s.port q).lock := by
  rw [State.port_updPort]
  split
  next same => exact same ▸ h
  · rfl

/-- An entry bound to a window in use joins the request queue (R36). -/
theorem UseCountLaw.enqueue {s : State} {e : QueueEntry} (law : UseCountLaw s) (inUse : (s.window e.window).state ≠ .free) :
    UseCountLaw (s.enqueue e) where
  indexes := law.indexes
  counts := law.counts
  free := law.free
  bound a ha := by
    rcases List.mem_append.1 ha with old | new
    · exact law.bound a old
    · exact List.mem_singleton.1 new ▸ inUse
  draining := law.draining
  waiting := law.waiting
  locks := law.locks

theorem UseCountLaw.atom {s t : State} (a : Atom s t) (boot : BootLaw s) (law : UseCountLaw s) : UseCountLaw t := by
  have base := ((useCountLaw_iff s).1 law).1
  have alone : ∀ i, s.deferred = none → ∀ d, s.deferred = some d → d.index = i := fun i h d hd => by simp [h] at hd
  cases a with
  | neutral h => exact law.neutral h
  | entry i f keeps => exact law.updEntry i f keeps
  | lock p i own => exact law.takeLock own
  | dispatch oldest free => exact law.dispatchEntry oldest free
  | entryEnded x tracked => exact law.entryEnded tracked x
  | install due => simp [((useCountLaw_iff s).1 law).2] at due
  | @revert d deferred draining =>
    refine UseCountLaw.settled (w := (s.window d.index).revert) base rfl (by simp [Window.revert]) rfl (by simp [Window.revert]) ?_ rfl
      (fun e he => ⟨he, fun _ => by simp [Window.revert]⟩) rfl rfl
    intro d' h
    rw [deferred] at h
    cases h
    rfl
  | load _ free => exact law.load free _
  | @replace i c _ _ none =>
    exact (UseCountLaw.installNow base c (alone i none)).of_eq rfl none rfl rfl rfl
  | @close i _ unused none => exact (UseCountLaw.closeNow base unused (alone i none)).of_eq rfl none rfl rfl rfl
  | @bind f b i credit fresh inUse =>
    have hit : UseCountLaw (((s.charged .data).enterTag f.pair).setWindow i (s.window i).hit) := by
      refine law.of_same (fun j => ?_) rfl (List.Subset.refl _) rfl fun _ => rfl
      rw [State.window_setWindow]
      split
      next same => exact same ▸ ⟨rfl, rfl, rfl⟩
      · exact ⟨rfl, rfl, rfl⟩
    refine hit.enqueue (e := queueEntryOf f b i) ?_
    rw [show (queueEntryOf f b i).window = i from rfl, State.window_setWindow_self]
    exact inUse
  | @responseSent r =>
    have same : ∀ t : State, t.window = s.window → t.deferred = s.deferred → t.requestQueue = s.requestQueue →
      t.tracking = s.tracking → t.port = s.port → UseCountLaw t := fun t => law.of_eq
    unfold State.responseSent
    cases r.pool <;> (split <;> exact same _ rfl rfl rfl rfl rfl)
  | bootLoads im underWay => exact law.bootLoads boot (boot.booting_of_underWay underWay) im
  | @pulseEnds p u modeStop =>
    have ended := law.of_same (t := s.updPort p fun q => q.endPulse modeStop) (fun _ => ⟨rfl, rfl, rfl⟩) rfl
      (List.Subset.refl _) rfl (State.updPort_lock (Port.endPulse_lock _ _))
    cases u.answerTo
    · exact ended
    · exact ended.of_eq rfl rfl rfl rfl rfl
  | _ => exact law.of_eq rfl rfl rfl rfl rfl

/-! ## Drains, port resets and resets -/

/-- A drain starts on a LIVE window with tracking entries (R18, R20, R21). -/
theorem UseCountLaw.startDrain {s : State} {i : WindowIdx} (law : UseCountLaw s) (f : MgmtFrame) (change : PendingChange)
    (limit : BitVec 8) (used : (s.window i).useCount ≠ 0) (none : s.deferred = none) :
    UseCountLaw (s.startDrain f i change limit) := by
  have read : ∀ j, (s.startDrain f i change limit).window j = if i = j then (s.window i).drain change limit else s.window j :=
    fun j => State.window_setWindow s i j _
  have still : ∀ j, (s.window j).state ≠ .draining := fun j h => by
    obtain ⟨d, hd, -⟩ := (law.draining j).1 h
    simp [none] at hd
  refine ⟨law.indexes, fun j => ?_, fun j h => ?_, fun e he => ?_, fun j => ?_, fun j h => ?_, law.locks⟩
  · rw [State.startDrain_tracking, ← law.counts, read]
    split
    next same => exact same ▸ rfl
    · rfl
  · rw [read] at h ⊢
    split_ifs at h ⊢
    · cases h
    · exact law.free j h
  · rw [read]
    split
    · simp [Window.drain]
    · exact law.bound e he
  · rw [read]
    split
    next same => exact iff_of_true rfl ⟨_, rfl, same⟩
    next other => exact iff_of_false (still j) (by rintro ⟨d, hd, same⟩; cases hd; exact other same)
  · rw [read] at h ⊢
    split_ifs at h ⊢
    · exact ⟨Nat.one_le_iff_ne_zero.2 used, rfl⟩
    · exact absurd h (still j)

/-- After the end of an entry the other entries of the table are there still, in their order, and new ones behind them (R52, R71). -/
theorem State.endEntry_tracking (s : State) (e : TrackEntry) (x : EntryEnd) :
    s.tracking.filter (fun a => a.index ≠ e.index) <+: (s.endEntry e x).tracking := by
  have out : (s.entryEnded e x).tracking = s.tracking.filter fun a => a.index ≠ e.index := by
    rw [State.entryEnded_eq, State.reportTracking_tracking]
    refine (State.installPending_keeps (P := fun t => t.tracking = (s.entryOut e x).tracking) rfl fun d c _ => ?_).trans
      (s.entryOut_same e x).2.2.1
    cases c <;> rfl
  rw [← out, State.endEntry_eq]
  refine (State.dispatchAll_keeps (P := fun t => (s.entryEnded e x).tracking <+: t.tracking) (fun t a i h _ _ => ?_) ⟨[], by simp⟩).1
  rw [(t.dispatchEntry_same a i).2.2.1]
  exact h.trans (List.prefix_append _ _)

/-- The entries of a port end one after the other; each is tracked still when its turn comes (R74). -/
theorem Atoms.endPortEntries {s : State} (indexes : (s.tracking.map TrackEntry.index).Nodup) (p : PortId) :
    Atoms s (s.endPortEntries p) := by
  have tracked : ∀ e ∈ s.tracking.filter (fun e => e.port == p), e ∈ s.tracking := fun e he => (List.mem_filter.1 he).1
  have distinct : ((s.tracking.filter fun e => e.port == p).map TrackEntry.index).Nodup := indexes.sublist (List.filter_sublist.map _)
  unfold State.endPortEntries
  generalize s.tracking.filter (fun e => e.port == p) = es at tracked distinct
  clear indexes
  induction es generalizing s with
  | nil => exact .refl
  | cons e es ih =>
    obtain ⟨fresh, distinct⟩ := List.nodup_cons.1 distinct
    refine (Atoms.endEntry (.fault .portReset) (tracked e (by simp))).trans (ih (fun a ha => ?_) distinct)
    refine (s.endEntry_tracking e (.fault .portReset)).subset (List.mem_filter.2 ⟨tracked a (by simp [ha]), ?_⟩)
    have : a.index ≠ e.index := fun same => fresh (same ▸ List.mem_map_of_mem ha)
    simpa using this

/-- A change of a port that touches no SWAP lock, or releases it (R81, R92). -/
theorem UseCountLaw.updPort {s : State} (law : UseCountLaw s) (p : PortId) (f : Port → Port)
    (lock : ∀ i, (f (s.port p)).lock = some i → (s.port p).lock = some i) : UseCountLaw (s.updPort p f) where
  indexes := law.indexes
  counts := law.counts
  free := law.free
  bound := law.bound
  draining := law.draining
  waiting := law.waiting
  locks q i h := by
    rw [State.port_updPort] at h
    split at h
    next same => exact law.locks q i (same ▸ lock i h)
    · exact law.locks q i h

theorem BootLaw.beginPulse {s : State} (law : BootLaw s) (running : s.mc.mode ≠ .booting) (p : PortId) (a : Pair) :
    BootLaw (s.updPort p fun q => q.beginPulse a) := law.of_running running running rfl

theorem UseCountLaw.resetPort {s : State} (boot : BootLaw s) (running : s.mc.mode ≠ .booting) (law : UseCountLaw s) (p : PortId)
    (a : Pair) : UseCountLaw (s.resetPort p a) := by
  have began := law.updPort p (fun q => q.beginPulse a) fun i h => (Port.beginPulse_keeps _ a).2.2.1 ▸ h
  have ended := Atoms.keep UseCountLaw.atom (.endPortEntries began.indexes p) (boot.beginPulse running p a) began
  have cleared := ended.updPort p Port.clearForReset fun i h => by cases h
  exact Atoms.keep UseCountLaw.atom (.resetPort s p a) (boot.cleared running p a) cleared

theorem useCounts_kept : Kept BootLaw (fun _ s => BootLaw s ∧ s.mc.mode ≠ .booting) UseCountLaw fun _ => UseCountLaw where
  reset {s} cause level _ _ := UseCountLaw.unused rfl rfl rfl
    (fun i => by simp [State.window, State.atReset, State.reset, Window.initial]) fun p => (s.port_atReset cause level p).2.2.1
  linkReset _ _ _ := UseCountLaw.linkReset _
  atom a boot law := law.atom a boot
  placed _ _ _ _ law := law.of_eq rfl rfl rfl rfl rfl
  taken a boot law := law.atom a boot.1
  answered _ _ _ _ law := law.of_eq rfl rfl rfl rfl rfl
  drains limit _ used none _ _ law := law.startDrain _ _ limit used none
  resets _ _ boot law := law.resetPort boot.1 boot.2 _ _

theorem UseCountLaw.queue {s : State} (law : UseCountLaw s) (cs : List Instr) : UseCountLaw { s with pending := cs } :=
  law.of_eq rfl rfl rfl rfl rfl

/-- The boot law and the law of the use counts are kept together. -/
theorem boot_useCounts_kept : Alone (fun s => BootLaw s ∧ UseCountLaw s)
    fun _ s => (BootLaw s ∧ s.mc.mode ≠ .booting) ∧ UseCountLaw s := Kept.and boot_kept useCounts_kept

/-- Settles O54: an entry that is dispatched or ends changes its window's count by one, and a count that reaches 0 in a drain brings the
install about at once. -/
theorem stepKeepsTheUseCounts : Obligations.StepKeepsTheUseCounts := fun _ _ boot law next =>
  (boot_useCounts_kept.step (fun cs h => ⟨h.1.queue cs, h.2.queue cs⟩) next ⟨boot, law⟩).2

end Sys2Proof.Machine
end

section
/-! PROOFS. The invariant of the tag set, by counting the pairs that each block holds. -/

namespace Sys2Proof.Machine

/-! ## How often a block holds a pair -/

/-- How many entries of the request queue carry a pair. -/
def State.queuedPair (s : State) (a : Pair) : Nat := s.requestQueue.countP fun e => (e.requester, e.tag) == a

/-- How many tracking entries that are not answered carry a pair. -/
def State.trackedPair (s : State) (a : Pair) : Nat := s.tracking.countP fun e => !e.posted && (e.requester, e.tag) == a

/-- How many management entries of a phase carry a pair. -/
def State.managedPair (s : State) (ph : MgmtPhase) (a : Pair) : Nat :=
  s.mgmtQueue.countP fun e => e.phase == ph && (e.requester, e.tag) == a

/-- How many RESPONSE records without the refusal mark carry a pair. -/
def State.owedPair (s : State) (a : Pair) : Nat := s.outstanding.countP fun r => !r.refusalMark && (r.requester, r.tag) == a

/-- The same of the management pool. -/
def State.owedMgmtPair (s : State) (a : Pair) : Nat :=
  s.outstanding.countP fun r => !r.refusalMark && r.pool == .management && (r.requester, r.tag) == a

/-- How often the pairs of some records of a list hold a pair. -/
theorem count_map_filter {α : Type} (l : List α) (test : α → Bool) (key : α → Pair) (a : Pair) :
    ((l.filter test).map key).count a = l.countP fun x => test x && key x == a := by
  rw [List.count_eq_countP, List.countP_map, List.countP_filter]
  refine List.countP_congr fun x _ => ?_
  simp [and_comm]

theorem State.count_heldPairs (s : State) (a : Pair) :
    s.heldPairs.count a = s.queuedPair a + s.trackedPair a + s.managedPair .deferred a + s.owedPair a := by
  have queue : (s.requestQueue.map fun e => (e.requester, e.tag)).count a = s.queuedPair a := by
    rw [List.count_eq_countP, List.countP_map]
    rfl
  simp only [State.heldPairs, List.count_append, count_map_filter, queue]
  rfl

/-- The law of the tag set in counts, with the pairs of commands that have been placed and neither answered nor deferred yet. -/
structure TagCounts (extra : List Pair) (s : State) : Prop where
  once : s.tags.Nodup
  held : ∀ a, s.queuedPair a + s.trackedPair a + s.managedPair .deferred a + s.owedPair a = s.tags.count a
  deferred : ∀ a, s.managedPair .deferred a = extra.count a + s.deferredPairs.count a
  answered : ∀ a, s.managedPair .answered a = s.owedMgmtPair a
  pulses : ∀ p, (s.port p).state ≠ .resetting → (s.port p).pulse.bind Pulse.answerTo = none

theorem tagLaw_iff (s : State) : TagLaw s ↔ TagCounts [] s := by
  have answers : ((s.outstanding.filter fun r => !r.refusalMark && r.pool == .management).map fun r => (r.requester, r.tag)).Perm
      ((s.mgmtQueue.filter fun e => e.phase == .answered).map fun e => (e.requester, e.tag)) ↔
      ∀ a, s.managedPair .answered a = s.owedMgmtPair a := by
    rw [List.perm_iff_count]
    refine forall_congr' fun a => ?_
    rw [count_map_filter, count_map_filter]
    exact eq_comm
  constructor
  · intro law
    refine ⟨law.once, fun a => ?_, fun a => ?_, answers.1 law.answered.symm, law.pulses⟩
    · rw [← State.count_heldPairs, law.held.count_eq]
    · have := law.deferred.count_eq a
      rw [count_map_filter] at this
      simpa [State.managedPair] using this
  · intro law
    refine ⟨law.once, List.perm_iff_count.2 fun a => ?_, List.perm_iff_count.2 fun a => ?_, (answers.2 law.answered).symm, law.pulses⟩
    · rw [State.count_heldPairs, law.held]
    · rw [count_map_filter]
      simpa [State.managedPair] using law.deferred a

/-- How often the deferred window operation and the port resets in progress hold a pair. -/
theorem State.count_deferredPairs (s : State) (a : Pair) :
    s.deferredPairs.count a = (s.deferred.toList.countP fun d => (d.requester, d.tag) == a) +
      (List.finRange 4).countP fun p => (s.port p).pulse.bind Pulse.answerTo == some a := by
  rw [State.deferredPairs, List.count_append, List.count_eq_countP, List.countP_map, List.count_eq_countP, List.countP_filterMap]
  congr 1
  refine List.countP_congr fun p _ => ?_
  cases (s.port p).pulse.bind Pulse.answerTo <;> simp

/-! ## RESPONSE records -/

/-- RESPONSE records join the response queue (R177). -/
theorem State.outstanding_append {s t : State} {rs : List Response} (responses : t.li.responses = s.li.responses ++ rs)
    (transmission : t.li.transmission = s.li.transmission) : t.outstanding.Perm (s.outstanding ++ rs) := by
  simp only [State.outstanding, responses, transmission, List.append_assoc]
  exact List.perm_append_comm.append_left _

/-- The RESPONSE record that a frame in transmission carries, if its sending has an effect (R177, R179). -/
def inTransmission : Option (SentFrame × Bool) → List Response
  | some (.response r, true) => [r]
  | _ => []

theorem State.outstanding_def (s : State) :
    s.outstanding = s.li.responses ++ inTransmission (s.li.transmission.map fun x => (x.frame, x.effective)) := by
  unfold State.outstanding
  congr 1
  rcases s.li.transmission with _ | ⟨_ | _ | _, _ | _, _⟩ <;> rfl

theorem State.outstanding_eq {s t : State} (responses : t.li.responses = s.li.responses)
    (transmission : t.li.transmission.map (fun x => (x.frame, x.effective)) = s.li.transmission.map fun x => (x.frame, x.effective)) :
    t.outstanding = s.outstanding := by
  rw [State.outstanding_def, State.outstanding_def, responses, transmission]

/-- Records that join the response queue add to what is owed (R177). -/
theorem State.owed_append {s t : State} {rs : List Response} (responses : t.li.responses = s.li.responses ++ rs)
    (transmission : t.li.transmission = s.li.transmission) (a : Pair) :
    t.owedPair a = s.owedPair a + rs.countP (fun r => !r.refusalMark && (r.requester, r.tag) == a) ∧
    t.owedMgmtPair a = s.owedMgmtPair a + rs.countP (fun r => !r.refusalMark && r.pool == .management && (r.requester, r.tag) == a) := by
  have perm := State.outstanding_append responses transmission
  simp only [State.owedPair, State.owedMgmtPair, perm.countP_eq, List.countP_append, and_self]

/-- Data RESPONSE records add nothing to what the management pool is owed (R177). -/
theorem State.owedMgmt_data {s t : State} {rs : List Response} (responses : t.li.responses = s.li.responses ++ rs)
    (transmission : t.li.transmission = s.li.transmission) (data : ∀ r ∈ rs, r.pool = .data) (a : Pair) :
    t.owedMgmtPair a = s.owedMgmtPair a := by
  rw [(State.owed_append responses transmission a).2, Nat.add_eq_left, List.countP_eq_zero]
  intro r hr
  simp [data r hr]

/-! ## Answers of management commands -/

/-- What the answer of a pair does to the management queue (R160, R161). -/
theorem countP_answer (q : List MgmtEntry) (x a : Pair) :
    ((q.map (MgmtEntry.answer x)).countP fun e => e.phase == .deferred && (e.requester, e.tag) == a) +
        (if a = x then q.countP fun e => e.phase == .deferred && (e.requester, e.tag) == x else 0) =
      (q.countP fun e => e.phase == .deferred && (e.requester, e.tag) == a) ∧
    ((q.map (MgmtEntry.answer x)).countP fun e => e.phase == .answered && (e.requester, e.tag) == a) =
      (q.countP fun e => e.phase == .answered && (e.requester, e.tag) == a) +
        (if a = x then q.countP fun e => e.phase == .deferred && (e.requester, e.tag) == x else 0) := by
  induction q with
  | nil => simp
  | cons e q ih =>
    obtain ⟨deferred, answered⟩ := ih
    simp only [List.map_cons, List.countP_cons]
    by_cases hx : (e.requester, e.tag) = x ∧ e.phase = .deferred
    · obtain ⟨pair, phase⟩ := hx
      have done : MgmtEntry.answer x e = { e with phase := .answered } := by simp [MgmtEntry.answer, pair, phase]
      have other : (MgmtPhase.answered == MgmtPhase.deferred) = false ∧ (MgmtPhase.deferred == MgmtPhase.answered) = false :=
        ⟨rfl, rfl⟩
      rw [done]
      simp only [phase, pair, other.1, other.2, beq_self_eq_true, Bool.false_and, Bool.true_and, Bool.false_eq_true, if_false, if_true,
        beq_iff_eq]
      by_cases ha : a = x
      · subst ha
        simp only [if_true] at deferred answered ⊢
        omega
      · simp only [ha, Ne.symm ha, if_false] at deferred answered ⊢
        omega
    · have same : MgmtEntry.answer x e = e := by simp [MgmtEntry.answer, hx]
      have apart : (e.phase == .deferred && (e.requester, e.tag) == x) = false := by
        rw [Bool.eq_false_iff]
        simpa [and_comm] using hx
      rw [same, apart]
      by_cases ha : a = x
      · subst ha
        simp only [apart, if_true, Bool.false_eq_true, if_false] at deferred answered ⊢
        omega
      · simp only [ha, if_false] at deferred answered ⊢
        omega

/-- The answer of a command that no block has deferred yet, or has just released, is built (R160, R161). -/
theorem TagCounts.answerMgmt {s : State} {extra : List Pair} {r : Response} {x : Pair} (law : TagCounts (x :: extra) s)
    (pair : (r.requester, r.tag) = x) (pool : r.pool = .management) (mark : r.refusalMark = false) :
    TagCounts extra (s.answerMgmt r) := by
  have single : s.managedPair .deferred x = 1 := by
    have most := List.nodup_iff_count_le_one.1 law.once x
    have held := law.held x
    have deferred := law.deferred x
    rw [List.count_cons_self] at deferred
    omega
  have one : ∀ a, (if x == a then 1 else 0) = if a = x then 1 else 0 := fun a => by
    by_cases h : a = x
    · subst h
      simp
    · simp [h, Ne.symm h]
  have owed : ∀ a, (s.answerMgmt r).owedPair a = s.owedPair a + (if a = x then 1 else 0) ∧
      (s.answerMgmt r).owedMgmtPair a = s.owedMgmtPair a + (if a = x then 1 else 0) := fun a => by
    have := State.owed_append (s := s) (t := s.answerMgmt r) (rs := [r]) rfl rfl a
    simpa only [List.countP_singleton, pair, pool, mark, Bool.not_false, Bool.true_and, beq_self_eq_true, one] using this
  have managed : ∀ a, (s.answerMgmt r).managedPair .deferred a + (if a = x then 1 else 0) = s.managedPair .deferred a ∧
      (s.answerMgmt r).managedPair .answered a = s.managedPair .answered a + (if a = x then 1 else 0) := fun a => by
    have := countP_answer s.mgmtQueue x a
    rw [show (s.mgmtQueue.countP fun e => e.phase == .deferred && (e.requester, e.tag) == x) = 1 from single, ← pair] at this
    exact pair ▸ this
  refine ⟨law.once, fun a => ?_, fun a => ?_, fun a => ?_, law.pulses⟩
  · have held : s.queuedPair a + s.trackedPair a + _ + _ = s.tags.count a := law.held a
    have := (managed a).1
    show s.queuedPair a + s.trackedPair a + _ + _ = s.tags.count a
    rw [(owed a).1]
    omega
  · have before := law.deferred a
    have deferred := (managed a).1
    show _ = _ + s.deferredPairs.count a
    rw [List.count_cons, one] at before
    omega
  · rw [(managed a).2, (owed a).2, law.answered]

/-! ## REMAPPED answers -/

/-- The queue entries that leave by REMAPPED answers are owed their RESPONSE records instead (R25, R33). -/
theorem State.remapUnless_counts (s : State) (keep : QueueEntry → Bool) (a : Pair) :
    (s.remapUnless keep).queuedPair a + (s.remapUnless keep).owedPair a = s.queuedPair a + s.owedPair a ∧
    (s.remapUnless keep).owedMgmtPair a = s.owedMgmtPair a := by
  have split := List.countP_eq_countP_filter_add s.requestQueue (fun e => (e.requester, e.tag) == a) keep
  have owed := State.owed_append (s := s) (t := s.remapUnless keep)
    (rs := (s.requestQueue.filter fun e => !keep e).map QueueEntry.remapped) rfl rfl a
  have mgmt := State.owedMgmt_data (s := s) (t := s.remapUnless keep)
    (rs := (s.requestQueue.filter fun e => !keep e).map QueueEntry.remapped) rfl rfl
    (by
      intro r hr
      obtain ⟨e, -, rfl⟩ := List.mem_map.1 hr
      rfl) a
  rw [List.countP_map] at owed
  have moved : (s.remapUnless keep).owedPair a =
      s.owedPair a + (s.requestQueue.filter fun e => !keep e).countP fun e => (e.requester, e.tag) == a := owed.1
  have kept : (s.remapUnless keep).queuedPair a = (s.requestQueue.filter keep).countP fun e => (e.requester, e.tag) == a := rfl
  have before : s.queuedPair a = _ := split
  exact ⟨by omega, mgmt⟩

theorem TagCounts.remapUnless {s : State} {extra : List Pair} (law : TagCounts extra s) (keep : QueueEntry → Bool) :
    TagCounts extra (s.remapUnless keep) where
  once := law.once
  held a := by
    have moved := (s.remapUnless_counts keep a).1
    have held : _ + s.trackedPair a + s.managedPair .deferred a + _ = s.tags.count a := law.held a
    show _ + s.trackedPair a + s.managedPair .deferred a + _ = s.tags.count a
    omega
  deferred := law.deferred
  answered a := ((s.remapUnless_counts keep a).2 ▸ law.answered a :)
  pulses := law.pulses

/-! ## The other changes -/

/-- The law looks at the request queue, at the keys of tracking entries, at the management queue, the tag set, what is owed, and the
pairs whose answers are deferred. -/
theorem TagCounts.of_same {s t : State} {extra : List Pair} (law : TagCounts extra s) (queue : t.requestQueue = s.requestQueue)
    (tracking : t.tracking.map TrackEntry.key = s.tracking.map TrackEntry.key) (mgmt : t.mgmtQueue = s.mgmtQueue)
    (tags : t.tags = s.tags) (outstanding : t.outstanding.Perm s.outstanding)
    (deferred : t.deferred.map DeferredOp.key = s.deferred.map DeferredOp.key)
    (pulse : ∀ p, (t.port p).pulse.bind Pulse.answerTo = (s.port p).pulse.bind Pulse.answerTo)
    (pulses : ∀ p, (t.port p).state ≠ .resetting → (s.port p).pulse.bind Pulse.answerTo = none) : TagCounts extra t := by
  have tracked : ∀ a, t.trackedPair a = s.trackedPair a := fun a =>
    countP_of_map_eq TrackEntry.key (fun k => !k.2.2.2.2 && k.2.1 == a) tracking
  have deferredPairs : ∀ a, t.deferredPairs.count a = s.deferredPairs.count a := fun a => by
    have keys : ∀ x : Option DeferredOp, (x.toList.countP fun d => (d.requester, d.tag) == a) =
        ((x.map DeferredOp.key).toList.countP fun k => k.2 == a) := fun x => by
      cases x <;> simp [DeferredOp.key, List.countP_singleton]
    rw [State.count_deferredPairs, State.count_deferredPairs, keys, keys, deferred]
    simp only [pulse]
  refine ⟨tags ▸ law.once, fun a => ?_, fun a => ?_, fun a => ?_, fun p h => pulse p ▸ pulses p h⟩
  · have held := law.held a
    simp only [State.queuedPair, State.managedPair, State.owedPair] at held ⊢
    rw [queue, tracked, mgmt, outstanding.countP_eq, tags, held]
  · rw [deferredPairs, ← law.deferred]
    simp only [State.managedPair, mgmt]
  · have answered := law.answered a
    simp only [State.managedPair, State.owedMgmtPair] at answered ⊢
    rw [mgmt, outstanding.countP_eq, answered]

/-- Nothing that the law looks at changes. -/
theorem TagCounts.of_eq {s t : State} {extra : List Pair} (law : TagCounts extra s) (queue : t.requestQueue = s.requestQueue)
    (tracking : t.tracking = s.tracking) (mgmt : t.mgmtQueue = s.mgmtQueue) (tags : t.tags = s.tags)
    (outstanding : t.outstanding = s.outstanding) (deferred : t.deferred = s.deferred) (port : t.port = s.port) : TagCounts extra t :=
  law.of_same queue (by rw [tracking]) mgmt tags (by rw [outstanding]) (by rw [deferred]) (fun p => by rw [port])
    fun p => by rw [port]; exact law.pulses p

/-! ## Dispatch and the end of an entry -/

/-- A dispatch answers a posted WRITE (R43, R69). -/
theorem State.dispatchEntry_li (s : State) (e : QueueEntry) (i : TrackIdx) :
    (s.dispatchEntry e i).li = { s.li with
      responses := s.li.responses ++
        if (e.track i (s.window e.window).contents).posted then [okResponse e.requester e.tag .data []] else [] } := by
  simp only [State.dispatchEntry]
  split <;> simp_all [State.respond]

theorem TagCounts.dispatchEntry {s : State} {extra : List Pair} (law : TagCounts extra s) {e : QueueEntry} (queued : e ∈ s.requestQueue)
    (i : TrackIdx) : TagCounts extra (s.dispatchEntry e i) := by
  obtain ⟨deferred, queue, tracking, tags, mgmt, port, -⟩ := s.dispatchEntry_same e i
  generalize hx : e.track i (s.window e.window).contents = x at tracking
  have li := s.dispatchEntry_li e i
  rw [hx] at li
  have key : (x.requester, x.tag) = (e.requester, e.tag) := hx ▸ rfl
  have owed := State.owed_append (s := s) (t := s.dispatchEntry e i) (by rw [li]) (by rw [li])
  have owedMgmt := State.owedMgmt_data (s := s) (t := s.dispatchEntry e i) (by rw [li]) (by rw [li])
    (fun r hr => by
      split at hr
      · rw [List.mem_singleton.1 hr]
        rfl
      · cases hr)
  have left : ∀ a, s.queuedPair a = (s.dispatchEntry e i).queuedPair a + if (e.requester, e.tag) == a then 1 else 0 := fun a => by
    rw [State.queuedPair, State.queuedPair, queue, (List.perm_cons_erase queued).countP_eq, List.countP_cons]
  have gained : ∀ a, (s.dispatchEntry e i).trackedPair a + ((s.dispatchEntry e i).owedPair a) =
      s.trackedPair a + s.owedPair a + if (e.requester, e.tag) == a then 1 else 0 := fun a => by
    rw [State.trackedPair, tracking, List.countP_append, (owed a).1, List.countP_singleton, key]
    cases x.posted
    · simp [State.trackedPair]
      omega
    · simp [State.trackedPair, okResponse, List.countP_singleton]
      omega
  refine ⟨tags ▸ law.once, fun a => ?_, fun a => ?_, fun a => ?_, fun p h => ?_⟩
  · have held := law.held a
    have := left a
    have := gained a
    rw [tags]
    have same : (s.dispatchEntry e i).managedPair .deferred a = s.managedPair .deferred a := by rw [State.managedPair, mgmt]; rfl
    omega
  · rw [State.managedPair, mgmt, State.count_deferredPairs, deferred, port, ← State.count_deferredPairs]
    exact law.deferred a
  · rw [State.managedPair, mgmt, owedMgmt a]
    exact law.answered a
  · rw [port] at h ⊢
    exact law.pulses p h

/-- The answer to an entry is a RESPONSE, or for a posted WRITE at most a notice (R69, R70). -/
theorem State.answerEntry_li (s : State) (e : TrackEntry) (x : EntryEnd) :
    (s.answerEntry e x).li = { s.li with responses := s.li.responses ++ if e.posted then [] else [e.response x] } := by
  unfold State.answerEntry
  split
  · cases x <;> simp_all [State.raise]
  · simp_all [State.respond]

/-- The slot and the SWAP lock of an entry that ends say nothing of its port's reset pulse (R71). -/
theorem Port.unlock_pulse (q : Port) (e : TrackEntry) :
    ((q.releaseFrom e).unlock e.index).pulse = q.pulse ∧ ((q.releaseFrom e).unlock e.index).state = q.state := by
  have released : (q.releaseFrom e).pulse = q.pulse ∧ (q.releaseFrom e).state = q.state := by
    unfold Port.releaseFrom
    split
    · split <;> exact ⟨rfl, rfl⟩
    · exact ⟨rfl, rfl⟩
  rcases (q.releaseFrom e).unlock_cases e.index with h | ⟨-, h⟩ <;> rw [h] <;> exact released

/-- The RESPONSE to an entry that ends is of the data pool, without the refusal mark (R70). -/
theorem TrackEntry.response_data (e : TrackEntry) (x : EntryEnd) :
    (e.response x).pool = .data ∧ (e.response x).refusalMark = false ∧
    ((e.response x).requester, (e.response x).tag) = (e.requester, e.tag) := by
  cases x <;> exact ⟨rfl, rfl, rfl⟩

theorem TagCounts.entryOut {s : State} {extra : List Pair} (law : TagCounts extra s) (indexes : (s.tracking.map TrackEntry.index).Nodup)
    {e : TrackEntry} (tracked : e ∈ s.tracking) (x : EntryEnd) : TagCounts extra (s.entryOut e x) := by
  obtain ⟨deferred, queue, tracking, tags, mgmt, port⟩ := s.entryOut_same e x
  obtain ⟨pool, mark, pair⟩ := e.response_data x
  have li : (s.entryOut e x).li = _ := s.answerEntry_li e x
  have owed := State.owed_append (s := s) (t := s.entryOut e x) (by rw [li]) (by rw [li])
  have owedMgmt := State.owedMgmt_data (s := s) (t := s.entryOut e x) (by rw [li]) (by rw [li])
    (fun r hr => by
      split at hr
      · cases hr
      · rw [List.mem_singleton.1 hr, pool])
  have same : ∀ p, ((s.entryOut e x).port p).pulse = (s.port p).pulse ∧ ((s.entryOut e x).port p).state = (s.port p).state :=
    fun p => by
      rw [port]
      split
      · exact Port.unlock_pulse _ _
      · exact ⟨rfl, rfl⟩
  have moved : ∀ a, (s.entryOut e x).trackedPair a + (s.entryOut e x).owedPair a = s.trackedPair a + s.owedPair a := fun a => by
    have without := countP_without indexes tracked fun e => !e.posted && (e.requester, e.tag) == a
    rw [State.trackedPair, tracking, (owed a).1, State.trackedPair, ← without]
    cases e.posted
    · simp [List.countP_singleton, mark, pair]
      omega
    · simp
  refine ⟨tags ▸ law.once, fun a => ?_, fun a => ?_, fun a => ?_, fun p h => ?_⟩
  · have held := law.held a
    have := moved a
    rw [tags]
    have kept : (s.entryOut e x).managedPair .deferred a = s.managedPair .deferred a ∧
        (s.entryOut e x).queuedPair a = s.queuedPair a := by
      rw [State.managedPair, mgmt, State.queuedPair, queue]
      exact ⟨rfl, rfl⟩
    omega
  · rw [State.managedPair, mgmt, State.count_deferredPairs, deferred]
    simp only [(same _).1]
    rw [← State.count_deferredPairs]
    exact law.deferred a
  · rw [State.managedPair, mgmt, owedMgmt a]
    exact law.answered a
  · rw [(same p).1]
    exact law.pulses p ((same p).2 ▸ h)

/-- The deferred window operation ends, and its answer is built (R23, R24, R26, R162). -/
theorem TagCounts.endDeferred {s : State} {extra : List Pair} (law : TagCounts extra s) {d : DeferredOp} (h : s.deferred = some d) :
    TagCounts ((d.requester, d.tag) :: extra) s.endDeferred where
  once := law.once
  held := law.held
  deferred a := by
    have before := law.deferred a
    rw [State.count_deferredPairs, h] at before
    rw [State.count_deferredPairs, List.count_cons]
    show s.managedPair .deferred a = _ + (0 + _)
    simp only [Option.toList_some, List.countP_singleton] at before
    show s.managedPair .deferred a = extra.count a + _ + (0 + (List.finRange 4).countP fun p => (s.port p).pulse.bind Pulse.answerTo == some a)
    omega
  answered := law.answered
  pulses := law.pulses

theorem TagCounts.answerDeferredOp {s : State} {extra : List Pair} {d : DeferredOp} (law : TagCounts ((d.requester, d.tag) :: extra) s)
    (st : Status) : TagCounts extra (s.answerDeferredOp d st) := law.answerMgmt rfl rfl rfl

/-- A window changes (R1). -/
theorem TagCounts.setWindow {s : State} {extra : List Pair} (law : TagCounts extra s) (i : WindowIdx) (w : Window) :
    TagCounts extra (s.setWindow i w) := law.of_eq rfl rfl rfl rfl rfl rfl rfl

theorem TagCounts.installFor {s : State} {extra : List Pair} (law : TagCounts extra s) {d : DeferredOp} (h : s.deferred = some d)
    (change : PendingChange) : TagCounts extra (s.installFor d change) := by
  cases change with
  | replacement c => exact (((law.endDeferred h).setWindow d.index _).remapUnless _).answerDeferredOp .ok
  | close => exact (((law.endDeferred h).setWindow d.index _).remapUnless _).answerDeferredOp .ok

theorem TagCounts.entryEnded {s : State} {extra : List Pair} (law : TagCounts extra s) (indexes : (s.tracking.map TrackEntry.index).Nodup)
    {e : TrackEntry} (tracked : e ∈ s.tracking) (x : EntryEnd) : TagCounts extra (s.entryEnded e x) := by
  have installed : TagCounts extra (s.entryOut e x).installPending :=
    State.installPending_keeps (law.entryOut indexes tracked x) fun d c due =>
      (law.entryOut indexes tracked x).installFor (State.installDue_some due).1 c
  rw [State.entryEnded_eq]
  exact installed.of_eq rfl rfl rfl rfl rfl rfl rfl

/-! ## Port resets and drains -/

/-- Whether the reset in progress of a port, if there is one, owes its answer to a pair: 1 or 0 (R92, R161). -/
def Port.owes (q : Port) (a : Pair) : Nat := if q.pulse.bind Pulse.answerTo = some a then 1 else 0

/-- What the four ports owe. -/
theorem State.count_deferredPairs_ports (s : State) (a : Pair) :
    s.deferredPairs.count a = (s.deferred.toList.countP fun d => (d.requester, d.tag) == a) +
      ((s.port 0).owes a + (s.port 1).owes a + (s.port 2).owes a + (s.port 3).owes a) := by
  have four : List.finRange 4 = [0, 1, 2, 3] := by decide
  rw [State.count_deferredPairs, four]
  simp only [List.countP_cons, List.countP_nil, beq_iff_eq, Port.owes]
  omega

/-- The answer that port p owes goes or comes with its pulse (R92, R93). -/
theorem State.count_deferredPairs_updPort (s : State) (p : PortId) (f : Port → Port) (a : Pair) :
    (s.updPort p f).deferredPairs.count a + (s.port p).owes a = s.deferredPairs.count a + (f (s.port p)).owes a := by
  have deferred : (s.updPort p f).deferred = s.deferred := rfl
  rw [State.count_deferredPairs_ports, State.count_deferredPairs_ports, deferred]
  simp only [State.port_updPort]
  fin_cases p <;> simp <;> omega

/-- A port changes its pulse and its state (R92, R93). -/
theorem TagCounts.updPort {s : State} {extra extra' : List Pair} {p : PortId} {f : Port → Port} (law : TagCounts extra s)
    (count : ∀ a, extra.count a + (s.port p).owes a = extra'.count a + (f (s.port p)).owes a)
    (resetting : (f (s.port p)).state ≠ .resetting → (f (s.port p)).pulse.bind Pulse.answerTo = none) :
    TagCounts extra' (s.updPort p f) where
  once := law.once
  held := law.held
  deferred a := by
    have before : s.managedPair .deferred a = _ := law.deferred a
    have := s.count_deferredPairs_updPort p f a
    have := count a
    show s.managedPair .deferred a = _
    omega
  answered := law.answered
  pulses q h := by
    rw [State.port_updPort] at h ⊢
    split_ifs at h ⊢
    · exact resetting h
    · exact law.pulses q h

theorem Port.endPulse_pulse (q : Port) (modeStop : Bool) : (q.endPulse modeStop).pulse = none := by
  unfold Port.endPulse
  cases modeStop
  · rfl
  · exact (Port.enterStopped_keeps { q with pulse := none }).2.2.2.2

/-- The end of a pulse, with the deferred OK if it has not been abandoned (R93). -/
theorem TagCounts.pulseEnds {s : State} {extra : List Pair} (law : TagCounts extra s) {p : PortId} {u : Pulse}
    (pulse : (s.port p).pulse = some u) (modeStop : Bool) :
    TagCounts extra ((s.updPort p fun q => q.endPulse modeStop).answerPulse u.answerTo) := by
  have gone := Port.endPulse_pulse (s.port p) modeStop
  cases owner : u.answerTo with
  | none =>
    have ended : TagCounts extra (s.updPort p fun q => q.endPulse modeStop) :=
      law.updPort (fun a => by simp [Port.owes, pulse, owner, gone]) fun _ => by simp [gone]
    exact ended
  | some x =>
    refine TagCounts.answerMgmt (x := x) (law.updPort (fun a => ?_) fun _ => by simp [gone]) rfl rfl rfl
    simp only [Port.owes, pulse, owner, gone, Option.bind_some, Option.bind_none, Option.some.injEq, reduceCtorEq, if_false, List.count_cons,
      beq_iff_eq, Nat.add_zero]

/-- A port reset begins: its answer is deferred to the end of the pulse (R92, R161). -/
theorem TagCounts.beginPulse {s : State} {x : Pair} (law : TagCounts [x] s) {p : PortId} (busy : (s.port p).state ≠ .resetting) :
    TagCounts [] (s.updPort p fun q => q.beginPulse x) := by
  obtain ⟨-, -, -, resetting, pulse⟩ := (s.port p).beginPulse_keeps x
  refine law.updPort (fun a => ?_) fun h => absurd resetting h
  simp only [Port.owes, law.pulses p busy, pulse, reduceCtorEq, if_false, List.count_cons, List.count_nil, Option.some.injEq, beq_iff_eq,
    Nat.add_zero, Nat.zero_add]

theorem TagCounts.startDrain {s : State} {f : MgmtFrame} (law : TagCounts [f.pair] s) (none : s.deferred = none) (i : WindowIdx)
    (change : PendingChange) (limit : BitVec 8) : TagCounts [] (s.startDrain f i change limit) where
  once := law.once
  held := law.held
  deferred a := by
    have before := law.deferred a
    have now : (s.startDrain f i change limit).deferredPairs.count a = (if f.pair == a then 1 else 0) +
        (List.finRange 4).countP fun p => (s.port p).pulse.bind Pulse.answerTo == some a := by
      rw [State.count_deferredPairs]
      exact congrArg (· + _) List.countP_singleton
    rw [State.count_deferredPairs, none, List.count_singleton] at before
    simp only [Option.toList_none, List.countP_nil] at before
    rw [now]
    show s.managedPair .deferred a = 0 + _
    omega
  answered := law.answered
  pulses := law.pulses

/-! ## The transmitter -/

/-- The records of a list without those of a pair. -/
theorem countP_filter_ne {α : Type} (l : List α) (test : α → Bool) (key : α → Pair) (x a : Pair) :
    ((l.filter fun e => key e ≠ x).countP fun e => test e && key e == a) =
      if a = x then 0 else l.countP fun e => test e && key e == a := by
  rw [List.countP_filter]
  split
  next same =>
    rw [List.countP_eq_zero]
    intro e _
    simp [same]
  next other =>
    refine List.countP_congr fun e _ => ?_
    simp only [Bool.and_eq_true, beq_iff_eq, decide_eq_true_eq]
    exact ⟨fun h => h.1, fun h => ⟨h, fun same => other (h.2 ▸ same)⟩⟩

/-- The end of a RESPONSE frame, by its refusal mark and its pool (R33, R158, R178). -/
theorem State.responseSent_frame (s : State) (r : Response) :
    (s.responseSent r).requestQueue = s.requestQueue ∧ (s.responseSent r).tracking = s.tracking ∧
    (s.responseSent r).deferred = s.deferred ∧ (s.responseSent r).port = s.port ∧ (s.responseSent r).window = s.window ∧
    (s.responseSent r).li = s.li.setCredit r.pool (s.li.credit r.pool + 1) ∧
    (s.responseSent r).tags = (if r.refusalMark then s.tags else s.tags.filter fun q => q ≠ r.pair) ∧
    (s.responseSent r).mgmtQueue =
      (if !r.refusalMark && r.pool == .management then s.mgmtQueue.filter fun e => (e.requester, e.tag) ≠ r.pair else s.mgmtQueue) := by
  unfold State.responseSent
  cases r.refusalMark <;> cases r.pool <;> exact ⟨rfl, rfl, rfl, rfl, rfl, rfl, rfl, rfl⟩

/-- A RESPONSE whose frame has been sent is owed no more; its pair leaves the tag set (R33, R178). -/
theorem TagCounts.responseSent {s : State} {extra : List Pair} (law : TagCounts extra s) {r : Response} {b : Nat}
    (sent : s.li.transmission = some ⟨.response r, true, b⟩) : TagCounts extra (State.responseSent { s with li := s.li.sent } r) := by
  obtain ⟨queue, tracking, deferred, port, -, li, tags, mgmt⟩ := State.responseSent_frame { s with li := s.li.sent } r
  generalize State.responseSent { s with li := s.li.sent } r = t at *
  have before : s.outstanding = s.li.responses ++ [r] := by
    rw [State.outstanding_def, sent]
    rfl
  have after : t.outstanding = s.li.responses := by
    rw [State.outstanding_def, li]
    cases r.pool <;> exact List.append_nil _
  have owed : ∀ a, s.owedPair a = t.owedPair a + (if !r.refusalMark && r.pair == a then 1 else 0) ∧
      s.owedMgmtPair a = t.owedMgmtPair a + (if !r.refusalMark && r.pool == .management && r.pair == a then 1 else 0) := fun a => by
    simp only [State.owedPair, State.owedMgmtPair, before, after, List.countP_append, List.countP_singleton]
    exact ⟨rfl, rfl⟩
  have same : ∀ a, t.queuedPair a = s.queuedPair a ∧ t.trackedPair a = s.trackedPair a ∧
      t.deferredPairs.count a = s.deferredPairs.count a := fun a => by
    rw [State.count_deferredPairs, State.count_deferredPairs, deferred, port, State.queuedPair, queue, State.trackedPair, tracking]
    exact ⟨rfl, rfl, rfl⟩
  have pulses : ∀ p, (t.port p).state ≠ .resetting → (t.port p).pulse.bind Pulse.answerTo = none := fun p => by
    rw [port]
    exact law.pulses p
  cases mark : r.refusalMark with
  | true =>
    simp only [mark, Bool.not_true, Bool.false_and, Bool.false_eq_true, if_false, if_true, Nat.add_zero] at owed tags mgmt
    have managed : ∀ ph a, t.managedPair ph a = s.managedPair ph a := fun ph a => by
      rw [State.managedPair, mgmt]
      rfl
    refine ⟨tags ▸ law.once, fun a => ?_, fun a => ?_, fun a => ?_, pulses⟩
    · rw [(same a).1, (same a).2.1, managed, ← (owed a).1, law.held, tags]
    · rw [managed, law.deferred, (same a).2.2]
    · rw [managed, law.answered, (owed a).2]
  | false =>
    simp only [mark, Bool.not_false, Bool.true_and, Bool.false_eq_true, if_false, beq_iff_eq, Bool.and_eq_true] at owed tags mgmt
    have single : s.tags.count r.pair = 1 ∧ s.owedPair r.pair = 1 ∧ s.managedPair .deferred r.pair = 0 ∧
        s.queuedPair r.pair = 0 ∧ s.trackedPair r.pair = 0 := by
      have most := List.nodup_iff_count_le_one.1 law.once r.pair
      have held := law.held r.pair
      have := (owed r.pair).1
      rw [if_pos rfl] at this
      omega
    have less : t.owedMgmtPair r.pair = 0 := by
      have := (owed r.pair).1
      rw [if_pos rfl] at this
      have : t.owedMgmtPair r.pair ≤ t.owedPair r.pair := List.countP_mono_left fun x _ h => by
        simp only [Bool.and_eq_true] at h ⊢
        exact ⟨h.1.1, h.2⟩
      omega
    have count : ∀ a, t.tags.count a = if a = r.pair then 0 else s.tags.count a := fun a => by
      rw [tags]
      split
      next h => exact List.count_eq_zero.2 fun mem => by simp [h] at mem
      next h => exact List.count_filter (by simpa using h)
    have managed : ∀ ph a, t.managedPair ph a =
        if r.pool = .management ∧ a = r.pair then 0 else s.managedPair ph a := fun ph a => by
      rw [State.managedPair, mgmt]
      split
      next pool =>
        rw [countP_filter_ne s.mgmtQueue (fun e => e.phase == ph) (fun e => (e.requester, e.tag))]
        simp only [pool, true_and]
        rfl
      next pool => simp only [pool, false_and, if_false]; rfl
    refine ⟨tags ▸ law.once.filter _, fun a => ?_, fun a => ?_, fun a => ?_, pulses⟩
    · have held := law.held a
      have := (owed a).1
      rw [(same a).1, (same a).2.1, managed, count]
      by_cases h : a = r.pair
      · subst h
        rw [if_pos rfl] at this ⊢
        split <;> omega
      · rw [if_neg (Ne.symm h)] at this
        simp only [h, and_false, if_false]
        omega
    · have := law.deferred a
      rw [managed, (same a).2.2]
      split
      next h =>
        rw [h.2] at this ⊢
        omega
      · exact this
    · have := law.answered a
      have := (owed a).2
      rw [managed]
      by_cases h : a = r.pair
      · subst h
        by_cases pool : r.pool = .management
        · simp [pool, less]
        · simp only [pool, false_and, if_false] at this ⊢
          omega
      · rw [if_neg fun same => h same.2.symm] at this
        rw [if_neg fun same => h same.2]
        omega

theorem TagCounts.neutral {s t : State} {extra : List Pair} (law : TagCounts extra s) (h : Neutral s t) : TagCounts extra t := by
  have answerTo : ∀ x : Option Pulse, x.bind Pulse.answerTo = (x.map Pulse.answerTo).join := fun x => by cases x <;> rfl
  refine law.of_same h.requestQueue (by rw [h.tracking]) h.mgmtQueue h.tags ?_ h.deferred (fun p => ?_) fun p running =>
    law.pulses p ((h.ports p).resetting running)
  · rw [State.outstanding_eq h.li.responses h.li.transmission]
  · rw [answerTo, answerTo, (h.ports p).pulse]

/-- A request is bound: its pair enters the tag set with its queue entry (R33, R36). -/
theorem TagCounts.bind {s : State} {extra : List Pair} (law : TagCounts extra s) {f : DataFrame} (fresh : f.pair ∉ s.tags) (b : ReqBody)
    (i : WindowIdx) : TagCounts extra ((s.charged .data).bind f b i) where
  once := List.nodup_append.2 ⟨law.once, List.nodup_singleton _, fun a ha x hx same =>
    fresh (List.mem_singleton.1 hx ▸ same ▸ ha)⟩
  held a := by
    have held := law.held a
    have queue : ((s.charged .data).bind f b i).queuedPair a = s.queuedPair a + if f.pair == a then 1 else 0 := by
      show (s.requestQueue ++ [queueEntryOf f b i]).countP _ = _
      rw [List.countP_append, List.countP_singleton]
      rfl
    rw [queue]
    show _ + s.trackedPair a + s.managedPair .deferred a + s.owedPair a = (s.tags ++ [f.pair]).count a
    rw [List.count_append, List.count_singleton]
    omega
  deferred := law.deferred
  answered := law.answered
  pulses := law.pulses

/-- A refusal with the refusal mark holds no pair (R33, R37, R159). -/
theorem TagCounts.refuse {s : State} {extra : List Pair} (law : TagCounts extra s) {r : Response} (marked : r.refusalMark = true)
    (pool : Pool) : TagCounts extra ((s.charged pool).respond r) := by
  have owed := State.owed_append (s := s) (t := (s.charged pool).respond r) (rs := [r]) (by cases pool <;> rfl) (by cases pool <;> rfl)
  simp only [List.countP_singleton, marked, Bool.not_true, Bool.false_and, Bool.false_eq_true, if_false, Nat.add_zero] at owed
  exact ⟨law.once, fun a => by rw [(owed a).1]; exact law.held a, law.deferred, fun a => by rw [(owed a).2]; exact law.answered a,
    law.pulses⟩

/-- A command is placed: its pair enters the tag set with its entry, and its answer is open (R33, R160). -/
theorem TagCounts.place {s : State} (law : TagCounts [] s) {f : MgmtFrame} (fresh : f.pair ∉ s.tags) (c : Command) :
    TagCounts [f.pair] ((s.charged .management).placeCommand f c) := by
  have managed : ∀ ph a, ((s.charged .management).placeCommand f c).managedPair ph a =
      s.managedPair ph a + if ph = .deferred ∧ f.pair = a then 1 else 0 := fun ph a => by
    show (s.mgmtQueue ++ [entryOf f c]).countP _ = _
    rw [List.countP_append, List.countP_singleton]
    cases ph <;> simp [State.managedPair, entryOf, MgmtFrame.pair]
  refine ⟨List.nodup_append.2 ⟨law.once, List.nodup_singleton _, fun a ha x hx same => fresh (List.mem_singleton.1 hx ▸ same ▸ ha)⟩,
    fun a => ?_, fun a => ?_, fun a => ?_, law.pulses⟩
  · have held := law.held a
    rw [managed]
    show s.queuedPair a + s.trackedPair a + _ + s.owedPair a = (s.tags ++ [f.pair]).count a
    simp only [List.count_append, List.count_singleton, beq_iff_eq, true_and]
    omega
  · have deferred := law.deferred a
    rw [managed]
    show _ = _ + s.deferredPairs.count a
    simp only [List.count_singleton, List.count_nil, beq_iff_eq, true_and] at deferred ⊢
    omega
  · rw [managed]
    simp only [reduceCtorEq, false_and, if_false, Nat.add_zero]
    exact law.answered a

/-- What is owed when no RESPONSE frame is in transmission with effect (R178, R179). -/
theorem State.outstanding_idle {s : State} (h : ∀ r b, s.li.transmission ≠ some ⟨.response r, true, b⟩) :
    s.outstanding = s.li.responses := by
  rw [State.outstanding_def]
  rcases hx : s.li.transmission with _ | ⟨_ | _ | _, _ | _, b⟩
  case some.response.true r => exact absurd hx (h r b)
  all_goals exact List.append_nil _

/-- In BOOTING no port reset is in progress, and an image brings none (R81, R186). -/
theorem TagCounts.applyImage {s : State} {extra : List Pair} (law : TagCounts extra s) (none : ∀ p, (s.port p).pulse = none)
    (im : BootImage) : TagCounts extra (s.applyImage im) := by
  have same : ∀ {α : Type} {g : State → α}, (∀ s i w, g (s.setWindow i w) = g s) → (∀ s p f, g (s.updPort p f) = g s) →
      (∀ (s : State) m, m.mode = s.mc.mode → g { s with mc := m } = g s) → g (s.applyImage im) = g s :=
    fun h1 h2 h3 => State.applyImage_keeps h1 h2 h3 s im
  have queue := same (g := State.requestQueue) (fun _ _ _ => rfl) (fun _ _ _ => rfl) fun _ _ _ => rfl
  have tracking := same (g := State.tracking) (fun _ _ _ => rfl) (fun _ _ _ => rfl) fun _ _ _ => rfl
  have mgmt := same (g := State.mgmtQueue) (fun _ _ _ => rfl) (fun _ _ _ => rfl) fun _ _ _ => rfl
  have tags := same (g := State.tags) (fun _ _ _ => rfl) (fun _ _ _ => rfl) fun _ _ _ => rfl
  have li := same (g := State.li) (fun _ _ _ => rfl) (fun _ _ _ => rfl) fun _ _ _ => rfl
  have deferred := same (g := State.deferred) (fun _ _ _ => rfl) (fun _ _ _ => rfl) fun _ _ _ => rfl
  refine law.of_same queue (by rw [tracking]) mgmt tags ?_ (by rw [deferred]) (fun p => ?_) fun p _ => by rw [none]; rfl
  · rw [State.outstanding_eq (s := s) (by rw [li]) (by rw [li])]
  · rw [State.port_applyImage, (im.applyTo_keeps p _).2]

theorem TagCounts.finishBoot {s : State} {extra : List Pair} (law : TagCounts extra s) (r : BootResult) :
    TagCounts extra (s.finishBoot r) := law.of_eq rfl rfl rfl rfl rfl rfl rfl

theorem TagCounts.bootLoads {s : State} {extra : List Pair} (boot : BootLaw s) (law : TagCounts extra s) (booting : s.mc.mode = .booting)
    (im : BootImage) : TagCounts extra ((s.applyImage im).finishBoot .loaded) :=
  (law.applyImage (boot.pulses booting) im).finishBoot _

theorem TagCounts.atom {s t : State} {extra : List Pair} (a : Atom s t) (boot : BootLaw s) (use : UseCountLaw s)
    (law : TagCounts extra s) : TagCounts extra t := by
  cases a with
  | neutral h => exact law.neutral h
  | entry i f keeps =>
    exact law.of_same rfl (s.updEntry_map i f _ keeps) rfl rfl (by rfl) rfl (fun _ => rfl) law.pulses
  | lock p i =>
    refine law.of_same rfl rfl rfl rfl (by rfl) rfl (fun q => ?_) fun q h => law.pulses q ?_
    · rw [State.port_updPort]
      split
      next same => rw [← same]
      · rfl
    · rw [State.port_updPort] at h
      split at h
      next same => exact same ▸ h
      · exact h
  | dispatch oldest => exact law.dispatchEntry (State.oldestDispatchable_some oldest).1 _
  | entryEnded x tracked => exact law.entryEnded use.indexes tracked x
  | install due => exact law.installFor (State.installDue_some due).1 _
  | revert deferred => exact TagCounts.answerDeferredOp ((law.setWindow _ _).endDeferred deferred) _
  | load => exact law.setWindow _ _
  | replace => exact (law.setWindow _ _).remapUnless _
  | close => exact (law.setWindow _ _).remapUnless _
  | refuse r _ marked => exact law.refuse marked _
  | bind f b _ fresh => exact law.bind fresh b _
  | takeCredit choice =>
    have free := (s.transmitChoice_iff.1.1 choice).1.2.2
    refine law.of_eq rfl rfl rfl rfl ?_ rfl rfl
    rw [State.outstanding_idle (s := s) (by simp [free])]
    exact State.outstanding_idle (by simp [LinkInterface.take])
  | takeNotice choice =>
    have free := (s.transmitChoice_iff.2.1.1 choice).1.2.2
    refine law.of_eq rfl rfl rfl rfl ?_ rfl rfl
    rw [State.outstanding_idle (s := s) (by simp [free])]
    exact State.outstanding_idle (by simp [LinkInterface.take])
  | @takeResponse r rest choice queue =>
    have free := (s.transmitChoice_iff.2.2.1 choice).1.2.2
    refine law.of_same rfl rfl rfl rfl ?_ rfl (fun _ => rfl) law.pulses
    rw [State.outstanding_idle (s := s) (by simp [free]), queue]
    exact (List.perm_append_comm (l₁ := rest) (l₂ := [r]))
  | responseSent sent => exact law.responseSent sent
  | creditSent sent =>
    refine law.of_eq rfl rfl rfl rfl ?_ rfl rfl
    rw [State.outstanding_idle (s := s) (by simp [sent])]
    exact State.outstanding_idle (by simp [LinkInterface.sent])
  | sent response =>
    refine law.of_eq rfl rfl rfl rfl ?_ rfl rfl
    rw [State.outstanding_idle (s := s) response]
    exact State.outstanding_idle (by simp [LinkInterface.sent])
  | bootLoads im underWay => exact law.bootLoads boot (boot.booting_of_underWay underWay) im
  | pulseEnds modeStop resetting pulse => exact law.pulseEnds pulse modeStop
  | _ => exact law.of_eq rfl rfl rfl rfl rfl rfl rfl

/-! ## Resets -/

/-- A part that holds no request and no command (R33). -/
theorem TagCounts.empty {s : State} (queue : s.requestQueue = []) (tracking : s.tracking = []) (mgmt : s.mgmtQueue = [])
    (tags : s.tags = []) (outstanding : s.outstanding = []) (deferred : s.deferred = none)
    (pulses : ∀ p, (s.port p).pulse.bind Pulse.answerTo = none) : TagCounts [] s where
  once := by simp [tags]
  held a := by simp [State.queuedPair, State.trackedPair, State.managedPair, State.owedPair, queue, tracking, mgmt, tags, outstanding]
  deferred a := by simp [State.managedPair, mgmt, State.count_deferredPairs, deferred, pulses]
  answered a := by simp [State.managedPair, State.owedMgmtPair, mgmt, outstanding]
  pulses p _ := pulses p

theorem TagCounts.atReset (s : State) (cause : CauseRecord) (level : Bool) : TagCounts [] (s.atReset cause level) :=
  .empty rfl rfl rfl rfl rfl rfl fun p => by rw [(s.port_atReset cause level p).2.2.2]; rfl

theorem TagCounts.linkReset (s : State) : TagCounts [] s.linkResetBlocks := by
  refine .empty rfl rfl rfl rfl ?_ rfl fun p => ?_
  · refine State.outstanding_idle fun r b h => ?_
    obtain ⟨x, -, hx⟩ := Option.map_eq_some_iff.1 (show s.li.transmission.map _ = _ from h)
    exact absurd (congrArg Transmission.effective hx) (by simp)
  · have port : s.linkResetBlocks.port p = (s.port p).linkReset := State.port_mapPorts _ _ _
    rw [port]
    simp only [Port.linkReset]
    cases (s.port p).pulse <;> rfl

theorem TagCounts.resetPort {s : State} {x : Pair} (boot : BootLaw s) (running : s.mc.mode ≠ .booting) (use : UseCountLaw s)
    (law : TagCounts [x] s) {p : PortId} (busy : (s.port p).state ≠ .resetting) : TagCounts [] (s.resetPort p x) := by
  have keep : ∀ {t u : State}, Atoms t u → BootLaw t ∧ UseCountLaw t → TagCounts [] t → (BootLaw u ∧ UseCountLaw u) ∧ TagCounts [] u :=
    fun a b law => by
      induction a with
      | refl => exact ⟨b, law⟩
      | tail _ atom ih => exact ⟨⟨ih.1.1.atom atom, ih.1.2.atom atom ih.1.1⟩, ih.2.atom atom ih.1.1 ih.1.2⟩
  have began := use.updPort p (fun q => q.beginPulse x) fun i h => (Port.beginPulse_keeps _ x).2.2.1 ▸ h
  obtain ⟨⟨-, use'⟩, ended⟩ := keep (.endPortEntries began.indexes p) ⟨boot.beginPulse running p x, began⟩ (law.beginPulse busy)
  have cleared : TagCounts [] _ := ended.updPort (p := p) (f := Port.clearForReset) (extra' := []) (fun a => rfl) (ended.pulses p)
  exact (keep (.resetPort s p x) ⟨boot.cleared running p x, use'.updPort p Port.clearForReset fun i h => by cases h⟩ cleared).2

theorem tags_kept : Kept (fun s => BootLaw s ∧ UseCountLaw s) (fun _ s => (BootLaw s ∧ s.mc.mode ≠ .booting) ∧ UseCountLaw s)
    (TagCounts []) fun f => TagCounts [f.pair] where
  reset _ _ _ _ := .atReset _ _ _
  linkReset _ _ _ := .linkReset _
  atom a laws law := law.atom a laws.1 laws.2
  placed c _ fresh _ law := law.place fresh c
  taken a laws law := law.atom a laws.1.1 laws.2
  answered pair pool mark _ law := law.answerMgmt pair pool mark
  drains limit _ _ none _ _ law := law.startDrain none _ _ limit
  resets _ busy laws law := law.resetPort laws.1.1 laws.1.2 laws.2 busy

theorem TagCounts.queue {s : State} {extra : List Pair} (law : TagCounts extra s) (cs : List Instr) :
    TagCounts extra { s with pending := cs } := law.of_eq rfl rfl rfl rfl rfl rfl rfl

/-- The three laws are kept together. -/
theorem boot_useCounts_tags_kept : Alone (fun s => (BootLaw s ∧ UseCountLaw s) ∧ TagCounts [] s)
    fun f s => ((BootLaw s ∧ s.mc.mode ≠ .booting) ∧ UseCountLaw s) ∧ TagCounts [f.pair] s := Kept.and boot_useCounts_kept tags_kept

/-- Settles O58: a pair enters the tag set with the entry that holds it, moves with it from block to block, and leaves when its RESPONSE
has been sent. -/
theorem stepKeepsTheTagSet : Obligations.StepKeepsTheTagSet := fun s t boot use law next =>
  (tagLaw_iff t).2 (boot_useCounts_tags_kept.step (fun cs h => ⟨⟨h.1.1.queue cs, h.1.2.queue cs⟩, h.2.queue cs⟩) next
    ⟨⟨boot, use⟩, (tagLaw_iff s).1 law⟩).2

end Sys2Proof.Machine
end

section
/-! PROOFS. The invariant of the credit: what has been charged and not yet returned is held somewhere. -/

namespace Sys2Proof.Machine

/-! ## What the part holds against its credit -/

/-- Nothing is held: no request, no command, no RESPONSE still to be sent. -/
structure HoldsNothing (s : State) : Prop where
  queue : s.requestQueue = []
  tracking : s.tracking = []
  mgmt : s.mgmtQueue = []
  outstanding : s.outstanding = []

/-- How many data requests are held and not yet answered with effect (R175). -/
def State.heldData (s : State) : Nat :=
  s.requestQueue.length + (s.tracking.countP fun e => !e.posted) + s.outstanding.countP fun r => r.pool == .data

/-- How many management commands and refusals at intake are held (R158, R175). -/
def State.heldMgmt (s : State) : Nat := s.mgmtQueue.length + s.outstanding.countP fun r => r.refusalMark && r.pool == .management

theorem HoldsNothing.held {s : State} (h : HoldsNothing s) : s.heldData = 0 ∧ s.heldMgmt = 0 := by
  simp [State.heldData, State.heldMgmt, h.queue, h.tracking, h.mgmt, h.outstanding]

/-- The law of the credit in the two sums. -/
structure CreditSums (s : State) : Prop where
  once : s.li.creditPending = true → ∀ b, s.li.transmission ≠ some ⟨.credit, true, b⟩
  owed : s.creditOwed → s.li.dataCredit = 0 ∧ s.li.mgmtCredit = 0 ∧ HoldsNothing s
  data : ¬ s.creditOwed → s.li.dataCredit + s.heldData = 24
  management : ¬ s.creditOwed → s.li.mgmtCredit + s.heldMgmt = 2

theorem creditLaw_iff (s : State) : CreditLaw s ↔ CreditSums s := by
  constructor
  · intro law
    refine ⟨law.once, fun h => ?_, fun h => ?_, fun h => ?_⟩
    · obtain ⟨data, mgmt, queue, tracking, mgmtQueue, outstanding⟩ := law.owed h
      exact ⟨data, mgmt, queue, tracking, mgmtQueue, outstanding⟩
    · simpa [State.heldData, ← Nat.add_assoc] using law.data h
    · simpa [State.heldMgmt, ← Nat.add_assoc] using law.management h
  · intro law
    refine ⟨law.once, fun h => ?_, fun h => ?_, fun h => ?_⟩
    · obtain ⟨data, mgmt, nothing⟩ := law.owed h
      exact ⟨data, mgmt, nothing.queue, nothing.tracking, nothing.mgmt, nothing.outstanding⟩
    · simpa [State.heldData, ← Nat.add_assoc] using law.data h
    · simpa [State.heldMgmt, ← Nat.add_assoc] using law.management h

/-- Whether CREDIT is owed is decided by the mode, the pending CREDIT and the frame in transmission (R175, R176). -/
theorem State.creditOwed_iff {s t : State} (mode : t.mc.mode = .booting ↔ s.mc.mode = .booting)
    (pending : t.li.creditPending = s.li.creditPending)
    (transmission : (∃ b, t.li.transmission = some ⟨.credit, true, b⟩) ↔ ∃ b, s.li.transmission = some ⟨.credit, true, b⟩) :
    t.creditOwed ↔ s.creditOwed := by
  simp only [State.creditOwed, mode, pending, transmission]

/-- A change that moves what is held and neither grants nor takes credit. -/
theorem CreditSums.of_sums {s t : State} (law : CreditSums s) (owes : t.creditOwed ↔ s.creditOwed)
    (once : t.li.creditPending = true → ∀ b, t.li.transmission ≠ some ⟨.credit, true, b⟩)
    (credit : t.li.dataCredit = s.li.dataCredit ∧ t.li.mgmtCredit = s.li.mgmtCredit) (nothing : s.creditOwed → HoldsNothing t)
    (data : t.heldData = s.heldData) (mgmt : t.heldMgmt = s.heldMgmt) : CreditSums t where
  once := once
  owed h := by
    obtain ⟨dataCredit, mgmtCredit, -⟩ := law.owed (owes.1 h)
    exact ⟨credit.1.trans dataCredit, credit.2.trans mgmtCredit, nothing (owes.1 h)⟩
  data h := by rw [credit.1, data, law.data (mt owes.2 h)]
  management h := by rw [credit.2, mgmt, law.management (mt owes.2 h)]

/-- What the law looks at stays as it is. -/
theorem CreditSums.of_same {s t : State} (law : CreditSums s) (mode : t.mc.mode = .booting ↔ s.mc.mode = .booting)
    (credit : t.li.dataCredit = s.li.dataCredit ∧ t.li.mgmtCredit = s.li.mgmtCredit)
    (pending : t.li.creditPending = s.li.creditPending)
    (transmission : ∀ b, t.li.transmission = some ⟨.credit, true, b⟩ → ∃ c, s.li.transmission = some ⟨.credit, true, c⟩)
    (transmission' : ∀ b, s.li.transmission = some ⟨.credit, true, b⟩ → ∃ c, t.li.transmission = some ⟨.credit, true, c⟩)
    (queue : t.requestQueue = s.requestQueue) (tracking : t.tracking.map TrackEntry.key = s.tracking.map TrackEntry.key)
    (mgmt : t.mgmtQueue = s.mgmtQueue) (outstanding : t.outstanding.Perm s.outstanding) : CreditSums t := by
  refine law.of_sums (State.creditOwed_iff mode pending
    ⟨fun ⟨b, h⟩ => transmission b h, fun ⟨b, h⟩ => transmission' b h⟩) (fun h b hb => ?_) credit (fun h => ?_) ?_ ?_
  · obtain ⟨c, hc⟩ := transmission b hb
    exact law.once (pending ▸ h) c hc
  · obtain ⟨-, -, nothing⟩ := law.owed h
    refine ⟨queue.trans nothing.queue, ?_, mgmt.trans nothing.mgmt, ?_⟩
    · rw [nothing.tracking] at tracking
      exact List.map_eq_nil_iff.1 tracking
    · rw [nothing.outstanding] at outstanding
      exact outstanding.eq_nil
  · have := countP_of_map_eq TrackEntry.key (fun k => !k.2.2.2.2) tracking
    simp only [State.heldData, queue, outstanding.countP_eq]
    exact congrArg (_ + · + _) this
  · simp only [State.heldMgmt, mgmt, outstanding.countP_eq]

/-- Nothing that the law looks at changes. -/
theorem CreditSums.of_eq {s t : State} (law : CreditSums s) (mode : t.mc.mode = s.mc.mode) (li : t.li = s.li)
    (queue : t.requestQueue = s.requestQueue) (tracking : t.tracking = s.tracking) (mgmt : t.mgmtQueue = s.mgmtQueue) : CreditSums t :=
  law.of_same (by rw [mode]) (by rw [li]; exact ⟨rfl, rfl⟩) (by rw [li]) (fun b h => ⟨b, li ▸ h⟩) (fun b h => ⟨b, li ▸ h⟩) queue
    (by rw [tracking]) mgmt (by rw [State.outstanding_eq (s := s) (by rw [li]) (by rw [li])])

section
variable {s : State} (law : CreditSums s)
include law

/-- A part that holds something has been granted its credit. -/
theorem CreditSums.granted_of_held (h : ¬ HoldsNothing s) : ¬ s.creditOwed := fun owed => h (law.owed owed).2.2

theorem CreditSums.granted_of_credit {pool : Pool} (h : 0 < s.li.credit pool) : ¬ s.creditOwed := fun owed => by
  obtain ⟨data, mgmt, -⟩ := law.owed owed
  cases pool
  · exact absurd data (Nat.ne_of_gt h)
  · exact absurd mgmt (Nat.ne_of_gt h)

end

/-! ## Answers -/

/-- A RESPONSE without the refusal mark to a management command that is held (R160, R161). -/
theorem CreditSums.answerMgmt {s : State} (law : CreditSums s) {r : Response} (held : s.mgmtQueue ≠ []) (pool : r.pool = .management)
    (mark : r.refusalMark = false) : CreditSums (s.answerMgmt r) := by
  have perm : (s.answerMgmt r).outstanding.Perm (s.outstanding ++ [r]) := State.outstanding_append rfl rfl
  refine law.of_sums (State.creditOwed_iff Iff.rfl rfl Iff.rfl) law.once ⟨rfl, rfl⟩ (fun h => absurd (law.owed h).2.2.mgmt held) ?_ ?_
  · simp only [State.heldData, perm.countP_eq, List.countP_append, List.countP_singleton, pool]
    rfl
  · simp only [State.heldMgmt, perm.countP_eq, List.countP_append, List.countP_singleton, mark, Bool.false_and]
    simp [State.answerMgmt]

/-- Queue entries that leave are answered REMAPPED (R25). -/
theorem CreditSums.remapUnless {s : State} (law : CreditSums s) (keep : QueueEntry → Bool) : CreditSums (s.remapUnless keep) := by
  have perm : (s.remapUnless keep).outstanding.Perm (s.outstanding ++ (s.requestQueue.filter fun e => !keep e).map QueueEntry.remapped) :=
    State.outstanding_append rfl rfl
  refine law.of_sums (State.creditOwed_iff Iff.rfl rfl Iff.rfl) law.once ⟨rfl, rfl⟩ (fun h => ?_) ?_ ?_
  · obtain ⟨-, -, nothing⟩ := law.owed h
    rw [nothing.queue, nothing.outstanding] at perm
    exact ⟨by simp [State.remapUnless, State.reportQueue, nothing.queue], nothing.tracking, nothing.mgmt, perm.eq_nil⟩
  · have split := List.length_eq_length_filter_add (l := s.requestQueue) keep
    have remapped : (((s.requestQueue.filter fun e => !keep e).map QueueEntry.remapped).countP fun r => r.pool == .data) =
        (s.requestQueue.filter fun e => !keep e).length := by
      rw [List.countP_map]
      exact List.countP_eq_length.2 fun _ _ => rfl
    have queue : (s.remapUnless keep).requestQueue = s.requestQueue.filter keep := rfl
    simp only [State.heldData, perm.countP_eq, List.countP_append, remapped, queue, State.remapUnless_tracking]
    omega
  · have remapped : (((s.requestQueue.filter fun e => !keep e).map QueueEntry.remapped).countP fun r =>
        r.refusalMark && r.pool == .management) = 0 := by
      rw [List.countP_map, List.countP_eq_zero]
      exact fun _ _ => by simp [QueueEntry.remapped, refusal]
    simp only [State.heldMgmt, perm.countP_eq, List.countP_append, remapped, State.remapUnless_mgmtQueue, Nat.add_zero]

/-! ## Requests -/

/-- A REQUEST is charged and refused with the refusal mark: its RESPONSE holds the credit (R37, R159, R175). -/
theorem CreditSums.refuse {s : State} (law : CreditSums s) {r : Response} (credit : 0 < s.li.credit r.pool)
    (marked : r.refusalMark = true) : CreditSums ((s.charged r.pool).respond r) := by
  have granted := law.granted_of_credit credit
  have li : ((s.charged r.pool).respond r).li.responses = s.li.responses ++ [r] ∧
      ((s.charged r.pool).respond r).li.transmission = s.li.transmission ∧
      ((s.charged r.pool).respond r).li.creditPending = s.li.creditPending := by
    cases r.pool <;> exact ⟨rfl, rfl, rfl⟩
  have owes : ((s.charged r.pool).respond r).creditOwed ↔ s.creditOwed :=
    State.creditOwed_iff Iff.rfl li.2.2 (by rw [li.2.1])
  have perm := State.outstanding_append li.1 li.2.1
  have data := law.data granted
  have mgmt := law.management granted
  refine ⟨fun h => li.2.1 ▸ law.once (li.2.2 ▸ h), fun h => absurd (owes.1 h) granted, fun _ => ?_, fun _ => ?_⟩
  · have held : ((s.charged r.pool).respond r).heldData = s.heldData + if r.pool == .data then 1 else 0 := by
      simp only [State.heldData, perm.countP_eq, List.countP_append, List.countP_singleton]
      exact (Nat.add_assoc _ _ _).symm
    rw [held]
    cases h : r.pool <;> rw [h] at credit <;> simp [State.charged, State.respond, LinkInterface.setCredit, LinkInterface.credit] at credit ⊢ <;>
      omega
  · have held : ((s.charged r.pool).respond r).heldMgmt = s.heldMgmt + if r.pool == .management then 1 else 0 := by
      simp only [State.heldMgmt, perm.countP_eq, List.countP_append, List.countP_singleton, marked, Bool.true_and]
      exact (Nat.add_assoc _ _ _).symm
    rw [held]
    cases h : r.pool <;> rw [h] at credit <;> simp [State.charged, State.respond, LinkInterface.setCredit, LinkInterface.credit] at credit ⊢ <;>
      omega

/-- A request is charged and bound: its queue entry holds the credit (R36, R175). -/
theorem CreditSums.bind {s : State} (law : CreditSums s) (credit : 0 < s.li.dataCredit) (f : DataFrame) (b : ReqBody) (i : WindowIdx) :
    CreditSums ((s.charged .data).bind f b i) := by
  have granted := law.granted_of_credit (pool := .data) credit
  have owes : ((s.charged .data).bind f b i).creditOwed ↔ s.creditOwed := Iff.rfl
  have data := law.data granted
  refine ⟨law.once, fun h => absurd (owes.1 h) granted, fun _ => ?_, fun _ => law.management granted⟩
  have held : ((s.charged .data).bind f b i).heldData = s.heldData + 1 := by
    have queue : ((s.charged .data).bind f b i).requestQueue.length = s.requestQueue.length + 1 := List.length_append
    show _ + (s.tracking.countP fun e => !e.posted) + (s.outstanding.countP fun r => r.pool == .data) = _
    rw [queue, State.heldData]
    omega
  have less : ((s.charged .data).bind f b i).li.dataCredit = s.li.dataCredit - 1 := rfl
  omega

/-- A command is charged and placed: its management entry holds the credit (R158, R160, R175). -/
theorem CreditSums.place {s : State} (law : CreditSums s) (credit : 0 < s.li.mgmtCredit) (f : MgmtFrame) (c : Command) :
    CreditSums ((s.charged .management).placeCommand f c) := by
  have granted := law.granted_of_credit (pool := .management) credit
  have owes : ((s.charged .management).placeCommand f c).creditOwed ↔ s.creditOwed := Iff.rfl
  have mgmt := law.management granted
  refine ⟨law.once, fun h => absurd (owes.1 h) granted, fun _ => law.data granted, fun _ => ?_⟩
  have held : ((s.charged .management).placeCommand f c).heldMgmt = s.heldMgmt + 1 := by
    have queue : ((s.charged .management).placeCommand f c).mgmtQueue.length = s.mgmtQueue.length + 1 := List.length_append
    show _ + (s.outstanding.countP fun r => r.refusalMark && r.pool == .management) = _
    rw [queue, State.heldMgmt]
    omega
  have less : ((s.charged .management).placeCommand f c).li.mgmtCredit = s.li.mgmtCredit - 1 := rfl
  omega

/-- A dispatched request is held by its tracking entry, or as a posted WRITE by its RESPONSE (R43, R69). -/
theorem CreditSums.dispatchEntry {s : State} (law : CreditSums s) {e : QueueEntry} (queued : e ∈ s.requestQueue) (i : TrackIdx) :
    CreditSums (s.dispatchEntry e i) := by
  obtain ⟨-, queue, tracking, -, mgmt, -, -⟩ := s.dispatchEntry_same e i
  obtain ⟨-, -, mode, -⟩ := s.dispatchEntry_keeps e i
  have li := s.dispatchEntry_li e i
  generalize e.track i (s.window e.window).contents = x at tracking li
  have perm : (s.dispatchEntry e i).outstanding.Perm _ := State.outstanding_append (s := s) (by rw [li]) (by rw [li])
  have shorter := List.length_erase_of_mem queued
  have some := List.length_pos_of_mem queued
  refine law.of_sums (State.creditOwed_iff (by rw [mode]) (by rw [li]) (by rw [li])) (by rw [li]; exact law.once)
    (by rw [li]; exact ⟨rfl, rfl⟩) (fun h => ?_) ?_ ?_
  · rw [(law.owed h).2.2.queue] at queued
    cases queued
  · simp only [State.heldData, queue, tracking, perm.countP_eq, List.countP_append, List.countP_singleton, shorter]
    cases x.posted
    · simp
      omega
    · simp [okResponse]
      omega
  · simp only [State.heldMgmt, mgmt, perm.countP_eq, List.countP_append]
    cases x.posted <;> simp [okResponse]

/-- An entry that ends is answered, unless it is posted (R69, R70). -/
theorem CreditSums.entryOut {s : State} (law : CreditSums s) (indexes : (s.tracking.map TrackEntry.index).Nodup) {e : TrackEntry}
    (tracked : e ∈ s.tracking) (x : EntryEnd) : CreditSums (s.entryOut e x) := by
  obtain ⟨-, queue, tracking, -, mgmt, -⟩ := s.entryOut_same e x
  obtain ⟨pool, mark, -⟩ := e.response_data x
  have li : (s.entryOut e x).li = _ := s.answerEntry_li e x
  have mode : (s.entryOut e x).mc.mode = s.mc.mode := (s.answerEntry_mode e x).1
  have perm : (s.entryOut e x).outstanding.Perm _ := State.outstanding_append (s := s) (by rw [li]) (by rw [li])
  have without := countP_without indexes tracked fun e => !e.posted
  refine law.of_sums (State.creditOwed_iff (by rw [mode]) (by rw [li]) (by rw [li])) (by rw [li]; exact law.once)
    (by rw [li]; exact ⟨rfl, rfl⟩) (fun h => ?_) ?_ ?_
  · rw [(law.owed h).2.2.tracking] at tracked
    cases tracked
  · simp only [State.heldData, queue, tracking, perm.countP_eq, List.countP_append, ← without]
    cases e.posted
    · simp [pool]
      omega
    · simp
  · simp only [State.heldMgmt, mgmt, perm.countP_eq, List.countP_append]
    cases e.posted <;> simp [mark]

/-- A deferred answer has its management entry (R161). -/
theorem TagCounts.mgmt_of_deferred {s : State} {extra : List Pair} (law : TagCounts extra s) {x : Pair}
    (h : x ∈ extra ++ s.deferredPairs) : s.mgmtQueue ≠ [] := fun empty => by
  have deferred := law.deferred x
  have : 0 < (extra ++ s.deferredPairs).count x := List.count_pos_iff.2 h
  rw [List.count_append, ← deferred, State.managedPair, empty] at this
  simp at this

theorem State.mem_deferredPairs_of_deferred {s : State} {d : DeferredOp} (h : s.deferred = some d) :
    (d.requester, d.tag) ∈ s.deferredPairs := by simp [State.deferredPairs, h]

theorem State.mem_deferredPairs_of_pulse {s : State} {p : PortId} {u : Pulse} {x : Pair} (h : (s.port p).pulse = some u)
    (owner : u.answerTo = some x) : x ∈ s.deferredPairs := by
  refine List.mem_append_right _ (List.mem_filterMap.2 ⟨p, List.mem_finRange p, ?_⟩)
  rw [h]
  exact owner

/-- A window changes (R1). -/
theorem CreditSums.setWindow {s : State} (law : CreditSums s) (i : WindowIdx) (w : Window) : CreditSums (s.setWindow i w) :=
  law.of_eq rfl rfl rfl rfl rfl

theorem CreditSums.endDeferred {s : State} (law : CreditSums s) : CreditSums s.endDeferred := law.of_eq rfl rfl rfl rfl rfl

theorem CreditSums.installFor {s : State} (law : CreditSums s) (held : s.mgmtQueue ≠ []) (d : DeferredOp) (change : PendingChange) :
    CreditSums (s.installFor d change) := by
  cases change with
  | replacement c => exact ((law.endDeferred.setWindow d.index _).remapUnless _).answerMgmt held rfl rfl
  | close => exact ((law.endDeferred.setWindow d.index _).remapUnless _).answerMgmt held rfl rfl

theorem CreditSums.entryEnded {s : State} {extra : List Pair} (law : CreditSums s) (tags : TagCounts extra s)
    (indexes : (s.tracking.map TrackEntry.index).Nodup) {e : TrackEntry} (tracked : e ∈ s.tracking) (x : EntryEnd) :
    CreditSums (s.entryEnded e x) := by
  have installed : CreditSums (s.entryOut e x).installPending :=
    State.installPending_keeps (law.entryOut indexes tracked x) fun d c due =>
      (law.entryOut indexes tracked x).installFor ((tags.entryOut indexes tracked x).mgmt_of_deferred
        (List.mem_append_right _ (State.mem_deferredPairs_of_deferred (State.installDue_some due).1))) d c
  rw [State.entryEnded_eq]
  exact installed.of_eq rfl rfl rfl rfl rfl

/-! ## The transmitter -/

/-- The CREDIT frame has been sent: both balances are full, and nothing was held before (R176). -/
theorem CreditSums.creditSent {s : State} (boot : BootLaw s) (law : CreditSums s) {b : Nat}
    (sent : s.li.transmission = some ⟨.credit, true, b⟩) :
    CreditSums { s with li := { s.li.sent with dataCredit := Config.dataPool, mgmtCredit := Config.managementPool } } := by
  obtain ⟨-, -, nothing⟩ := law.owed (.inr (.inr ⟨b, sent⟩))
  have running := boot.running_of_transmission sent
  have notPending : s.li.creditPending ≠ true := fun h => law.once h b sent
  have outstanding : State.outstanding
      { s with li := { s.li.sent with dataCredit := Config.dataPool, mgmtCredit := Config.managementPool } } = [] := by
    have before := nothing.outstanding
    rw [State.outstanding_idle (s := s) (by simp [sent])] at before
    rw [State.outstanding_idle (by simp [LinkInterface.sent])]
    exact before
  have still : HoldsNothing { s with li := { s.li.sent with dataCredit := Config.dataPool, mgmtCredit := Config.managementPool } } :=
    ⟨nothing.queue, nothing.tracking, nothing.mgmt, outstanding⟩
  refine ⟨fun h => absurd h notPending, fun h => ?_, fun _ => by rw [still.held.1]; rfl, fun _ => by rw [still.held.2]; rfl⟩
  rcases h with h | h | ⟨c, h⟩
  · exact absurd h running
  · exact absurd h notPending
  · cases h

/-- A management entry is DEFERRED or ANSWERED (R158). -/
theorem countP_phases (q : List MgmtEntry) (x : Pair) :
    (q.countP fun e => (e.requester, e.tag) == x) = (q.countP fun e => e.phase == .deferred && (e.requester, e.tag) == x) +
      q.countP fun e => e.phase == .answered && (e.requester, e.tag) == x := by
  induction q with
  | nil => rfl
  | cons e q ih =>
    simp only [List.countP_cons, ih]
    cases e.phase <;> simp <;> omega

/-- The management entry of an answered command leaves alone: one entry for each pair (R158, R178). -/
theorem TagCounts.length_without {s : State} {extra : List Pair} (law : TagCounts extra s) {r : Response} {b : Nat}
    (sent : s.li.transmission = some ⟨.response r, true, b⟩) (mark : r.refusalMark = false) (pool : r.pool = .management) :
    (s.mgmtQueue.filter fun e => (e.requester, e.tag) ≠ r.pair).length + 1 = s.mgmtQueue.length := by
  have outstanding : s.outstanding = s.li.responses ++ [r] := by
    rw [State.outstanding_def, sent]
    rfl
  have owed : 1 ≤ s.owedMgmtPair r.pair ∧ s.owedMgmtPair r.pair ≤ s.owedPair r.pair := by
    refine ⟨?_, List.countP_mono_left fun x _ h => ?_⟩
    · rw [State.owedMgmtPair, outstanding, List.countP_append, List.countP_singleton]
      simp [mark, pool, Response.pair]
    · simp only [Bool.and_eq_true] at h ⊢
      exact ⟨h.1.1, h.2⟩
  have one : (s.mgmtQueue.countP fun e => (e.requester, e.tag) == r.pair) = 1 := by
    have most := List.nodup_iff_count_le_one.1 law.once r.pair
    have held := law.held r.pair
    have answered := law.answered r.pair
    rw [countP_phases]
    change s.managedPair .deferred r.pair + s.managedPair .answered r.pair = 1
    omega
  have split := List.length_eq_length_filter_add (l := s.mgmtQueue) fun e => decide ((e.requester, e.tag) ≠ r.pair)
  have rest : (s.mgmtQueue.filter fun e => !decide ((e.requester, e.tag) ≠ r.pair)).length = 1 := by
    rw [← List.countP_eq_length_filter, ← one]
    exact List.countP_congr fun e _ => by simp
  omega

/-- A RESPONSE frame has been sent: its credit returns (R175, R178). -/
theorem CreditSums.responseSent {s : State} {extra : List Pair} (tags : TagCounts extra s) (law : CreditSums s) {r : Response} {b : Nat}
    (sent : s.li.transmission = some ⟨.response r, true, b⟩) : CreditSums (State.responseSent { s with li := s.li.sent } r) := by
  obtain ⟨queue, tracking, -, -, -, li, -, mgmt⟩ := State.responseSent_frame { s with li := s.li.sent } r
  have mode : (State.responseSent { s with li := s.li.sent } r).mc = s.mc := (State.responseSent_keeps _ r).1
  generalize State.responseSent { s with li := s.li.sent } r = t at *
  have before : s.outstanding = s.li.responses ++ [r] := by
    rw [State.outstanding_def, sent]
    rfl
  have after : t.outstanding = s.li.responses := by
    rw [State.outstanding_def, li]
    cases r.pool <;> exact List.append_nil _
  have link : t.li.creditPending = s.li.creditPending ∧ t.li.transmission = none := by
    rw [li]
    cases r.pool <;> exact ⟨rfl, rfl⟩
  have granted : ¬ s.creditOwed := law.granted_of_held fun h => by
    have := h.outstanding
    simp [before] at this
  have granted' : ¬ t.creditOwed := fun h => granted <| by
    rcases h with h | h | ⟨c, h⟩
    · exact .inl (mode ▸ h)
    · exact .inr (.inl (link.1 ▸ h))
    · simp [link.2] at h
  have data := law.data granted
  have management := law.management granted
  simp only [State.heldData, State.heldMgmt, before, List.countP_append, List.countP_singleton] at data management
  refine ⟨fun h c => by simp [link.2], fun h => absurd h granted', fun _ => ?_, fun _ => ?_⟩
  · simp only [State.heldData, after, queue, tracking, li]
    cases pool : r.pool <;> simp [pool, LinkInterface.setCredit, LinkInterface.credit, LinkInterface.sent] at data ⊢ <;> omega
  · simp only [State.heldMgmt, after, mgmt, li]
    cases pool : r.pool <;> cases mark : r.refusalMark <;>
      simp [pool, mark, LinkInterface.setCredit, LinkInterface.credit, LinkInterface.sent] at management ⊢
    case management.false =>
      have := tags.length_without sent mark pool
      simp at this
      omega
    all_goals omega

/-! ## The other changes -/

theorem CreditSums.neutral {s t : State} (law : CreditSums s) (h : Neutral s t) : CreditSums t := by
  have credit : ∀ {x y : Option Transmission} {b : Nat}, y.map (fun x => (x.frame, x.effective)) = x.map (fun x => (x.frame, x.effective)) →
      y = some ⟨.credit, true, b⟩ → ∃ c, x = some ⟨.credit, true, c⟩ := fun {x y b} same hy => by
    subst hy
    obtain ⟨z, rfl, hz⟩ := Option.map_eq_some_iff.1 same.symm
    exact ⟨z.bytesLeft, by cases z; cases hz; rfl⟩
  exact law.of_same (by rw [h.mode]) ⟨h.li.dataCredit, h.li.mgmtCredit⟩ h.li.creditPending (fun _ => credit h.li.transmission)
    (fun _ => credit h.li.transmission.symm) h.requestQueue (by rw [h.tracking]) h.mgmtQueue
    (by rw [State.outstanding_eq h.li.responses h.li.transmission])

/-- What the boot leaves alone until it ends: no request, no command, no credit, an idle link (R49, R158, R170). -/
structure LinkUntouched (s : State) : Prop where
  queue : s.requestQueue = []
  tracking : s.tracking = []
  mgmt : s.mgmtQueue = []
  credit : s.li.dataCredit = 0 ∧ s.li.mgmtCredit = 0
  responses : s.li.responses = []
  transmission : s.li.transmission = none

theorem BootLaw.untouched {s : State} (boot : BootLaw s) (booting : s.mc.mode = .booting) : LinkUntouched s :=
  ⟨(boot.queues booting).1, (boot.queues booting).2.1, (boot.queues booting).2.2.2, boot.credits booting, (boot.link booting).2.1,
    (boot.link booting).2.2⟩

theorem LinkUntouched.applyImage {s : State} (h : LinkUntouched s) (im : BootImage) : LinkUntouched (s.applyImage im) := by
  have same : ∀ {α : Type} {g : State → α}, (∀ s i w, g (s.setWindow i w) = g s) → (∀ s p f, g (s.updPort p f) = g s) →
      (∀ (s : State) m, m.mode = s.mc.mode → g { s with mc := m } = g s) → g (s.applyImage im) = g s :=
    fun h1 h2 h3 => State.applyImage_keeps h1 h2 h3 s im
  have queue := same (g := State.requestQueue) (fun _ _ _ => rfl) (fun _ _ _ => rfl) fun _ _ _ => rfl
  have tracking := same (g := State.tracking) (fun _ _ _ => rfl) (fun _ _ _ => rfl) fun _ _ _ => rfl
  have mgmt := same (g := State.mgmtQueue) (fun _ _ _ => rfl) (fun _ _ _ => rfl) fun _ _ _ => rfl
  have li := same (g := State.li) (fun _ _ _ => rfl) (fun _ _ _ => rfl) fun _ _ _ => rfl
  exact ⟨queue.trans h.queue, tracking.trans h.tracking, mgmt.trans h.mgmt, li ▸ h.credit, li ▸ h.responses, li ▸ h.transmission⟩

theorem LinkUntouched.holdsNothing {s : State} (h : LinkUntouched s) : HoldsNothing s := by
  refine ⟨h.queue, h.tracking, h.mgmt, ?_⟩
  rw [State.outstanding_idle (by simp [h.transmission])]
  exact h.responses

/-- The boot ends: CREDIT is pending, and nothing is held (R176, R187). -/
theorem CreditSums.finishBoot {s : State} (h : LinkUntouched s) (r : BootResult) : CreditSums (s.finishBoot r) := by
  have still : LinkUntouched (s.finishBoot r) := ⟨h.queue, h.tracking, h.mgmt, h.credit, h.responses, h.transmission⟩
  have owed : (s.finishBoot r).creditOwed := .inr (.inl rfl)
  exact ⟨fun _ b => by simp [still.transmission], fun _ => ⟨still.credit.1, still.credit.2, still.holdsNothing⟩, fun h => absurd owed h,
    fun h => absurd owed h⟩

theorem CreditSums.atom {s t : State} {extra : List Pair} (a : Atom s t) (boot : BootLaw s) (use : UseCountLaw s)
    (tags : TagCounts extra s) (law : CreditSums s) : CreditSums t := by
  cases a with
  | neutral h => exact law.neutral h
  | mode m before after =>
    exact law.of_same (iff_of_false after before) ⟨rfl, rfl⟩ rfl (fun b h => ⟨b, h⟩) (fun b h => ⟨b, h⟩) rfl rfl rfl (by rfl)
  | entry i f keeps =>
    exact law.of_same Iff.rfl ⟨rfl, rfl⟩ rfl (fun b h => ⟨b, h⟩) (fun b h => ⟨b, h⟩) rfl (s.updEntry_map i f _ keeps) rfl (by rfl)
  | dispatch oldest => exact law.dispatchEntry (State.oldestDispatchable_some oldest).1 _
  | entryEnded x tracked => exact law.entryEnded tags use.indexes tracked x
  | install due =>
    exact law.installFor (tags.mgmt_of_deferred
      (List.mem_append_right _ (State.mem_deferredPairs_of_deferred (State.installDue_some due).1))) _ _
  | revert deferred =>
    exact (law.setWindow _ _).endDeferred.answerMgmt (tags.mgmt_of_deferred
      (List.mem_append_right _ (State.mem_deferredPairs_of_deferred deferred))) rfl rfl
  | replace => exact (law.setWindow _ _).remapUnless _
  | close => exact (law.setWindow _ _).remapUnless _
  | refuse r credit marked => exact law.refuse credit marked
  | bind f b credit => exact law.bind credit f b _
  | takeCredit choice =>
    obtain ⟨⟨-, -, free⟩, pending⟩ := s.transmitChoice_iff.1.1 choice
    obtain ⟨data, mgmt, nothing⟩ := law.owed (.inr (.inl pending))
    have owed : State.creditOwed { s with li := { s.li.take .credit with creditPending := false } } := .inr (.inr ⟨_, rfl⟩)
    have outstanding : State.outstanding { s with li := { s.li.take .credit with creditPending := false } } = [] := by
      have before := nothing.outstanding
      rw [State.outstanding_idle (s := s) (by simp [free])] at before
      rw [State.outstanding_idle (by simp [LinkInterface.take])]
      exact before
    exact ⟨nofun, fun _ => ⟨data, mgmt, nothing.queue, nothing.tracking, nothing.mgmt, outstanding⟩, fun h => absurd owed h,
      fun h => absurd owed h⟩
  | takeNotice choice =>
    have free := (s.transmitChoice_iff.2.1.1 choice).1.2.2
    refine law.of_same Iff.rfl ⟨rfl, rfl⟩ rfl (fun b h => by cases h) (fun b h => by simp [free] at h) rfl rfl rfl ?_
    rw [State.outstanding_idle (s := s) (by simp [free]), State.outstanding_idle (by simp [LinkInterface.take])]
    rfl
  | @takeResponse r rest choice queue =>
    have free := (s.transmitChoice_iff.2.2.1 choice).1.2.2
    refine law.of_same Iff.rfl ⟨rfl, rfl⟩ rfl (fun b h => by cases h) (fun b h => by simp [free] at h) rfl rfl rfl ?_
    rw [State.outstanding_idle (s := s) (by simp [free]), queue]
    exact (List.perm_append_comm (l₁ := rest) (l₂ := [r]))
  | responseSent sent => exact law.responseSent tags sent
  | creditSent sent => exact law.creditSent boot sent
  | sent response credit =>
    refine law.of_same Iff.rfl ⟨rfl, rfl⟩ rfl (fun b h => by cases h) (fun b h => absurd h (credit b)) rfl rfl rfl ?_
    rw [State.outstanding_idle (s := s) response, State.outstanding_idle (by simp [LinkInterface.sent])]
    rfl
  | bootFinishes r underWay => exact CreditSums.finishBoot (boot.untouched (boot.booting_of_underWay underWay)) r
  | bootLoads im underWay =>
    exact CreditSums.finishBoot ((boot.untouched (boot.booting_of_underWay underWay)).applyImage im) _
  | @pulseEnds p u modeStop resetting pulse =>
    have ended : CreditSums (s.updPort p fun q => q.endPulse modeStop) := law.of_eq rfl rfl rfl rfl rfl
    cases owner : u.answerTo with
    | none => exact ended
    | some x =>
      exact ended.answerMgmt (tags.mgmt_of_deferred (List.mem_append_right _ (State.mem_deferredPairs_of_pulse pulse owner))) rfl rfl
  | _ => exact law.of_eq rfl rfl rfl rfl rfl

/-! ## Resets -/

/-- Until CREDIT has been granted nothing is held (R175, R179). -/
theorem CreditSums.ungranted {s : State} (nothing : HoldsNothing s) (credit : s.li.dataCredit = 0 ∧ s.li.mgmtCredit = 0)
    (owed : s.mc.mode = .booting ∨ s.li.creditPending = true) (idle : ∀ b, s.li.transmission ≠ some ⟨.credit, true, b⟩) : CreditSums s :=
  ⟨fun _ => idle, fun _ => ⟨credit.1, credit.2, nothing⟩, fun h => absurd (owed.imp_right .inl) h, fun h => absurd (owed.imp_right .inl) h⟩

theorem CreditSums.linkReset (s : State) : CreditSums s.linkResetBlocks := by
  have ineffective : ∀ f b, s.linkResetBlocks.li.transmission ≠ some ⟨f, true, b⟩ := fun f b h => by
    obtain ⟨x, -, hx⟩ := Option.map_eq_some_iff.1 (show s.li.transmission.map _ = _ from h)
    exact absurd (congrArg Transmission.effective hx) (by simp)
  exact .ungranted ⟨rfl, rfl, rfl, State.outstanding_idle fun r b => ineffective _ b⟩ ⟨rfl, rfl⟩ (.inr rfl) fun b => ineffective _ b

theorem CreditSums.resetPort {s : State} {x : Pair} (boot : BootLaw s) (running : s.mc.mode ≠ .booting) (use : UseCountLaw s)
    (tags : TagCounts [x] s) (law : CreditSums s) {p : PortId} (busy : (s.port p).state ≠ .resetting) : CreditSums (s.resetPort p x) := by
  have keep : ∀ {t u : State}, Atoms t u → (BootLaw t ∧ UseCountLaw t) ∧ TagCounts [] t → CreditSums t →
      ((BootLaw u ∧ UseCountLaw u) ∧ TagCounts [] u) ∧ CreditSums u := fun a b law => by
    induction a with
    | refl => exact ⟨b, law⟩
    | tail _ atom ih =>
      exact ⟨⟨⟨ih.1.1.1.atom atom, ih.1.1.2.atom atom ih.1.1.1⟩, ih.1.2.atom atom ih.1.1.1 ih.1.1.2⟩,
        ih.2.atom atom ih.1.1.1 ih.1.1.2 ih.1.2⟩
  have began := use.updPort p (fun q => q.beginPulse x) fun i h => (Port.beginPulse_keeps _ x).2.2.1 ▸ h
  obtain ⟨⟨⟨-, use'⟩, tags'⟩, ended⟩ := keep (.endPortEntries began.indexes p)
    ⟨⟨boot.beginPulse running p x, began⟩, tags.beginPulse busy⟩ (law.of_eq rfl rfl rfl rfl rfl)
  have cleared : TagCounts [] _ := tags'.updPort (p := p) (f := Port.clearForReset) (extra' := []) (fun a => rfl) (tags'.pulses p)
  exact (keep (.resetPort s p x) ⟨⟨boot.cleared running p x, use'.updPort p Port.clearForReset fun i h => by cases h⟩, cleared⟩
    (ended.of_eq rfl rfl rfl rfl rfl)).2

theorem credit_kept : Kept (fun s => (BootLaw s ∧ UseCountLaw s) ∧ TagCounts [] s)
    (fun f s => ((BootLaw s ∧ s.mc.mode ≠ .booting) ∧ UseCountLaw s) ∧ TagCounts [f.pair] s) CreditSums fun _ => CreditSums where
  reset _ _ _ _ := .ungranted ⟨rfl, rfl, rfl, rfl⟩ ⟨rfl, rfl⟩ (.inl rfl) nofun
  linkReset _ _ _ := .linkReset _
  atom a laws law := law.atom a laws.1.1 laws.1.2 laws.2
  placed c credit _ _ law := law.place credit _ c
  taken a laws law := law.atom a laws.1.1.1 laws.1.2 laws.2
  answered {f _ _} _ pool mark laws law := law.answerMgmt (laws.2.mgmt_of_deferred (x := f.pair) (by simp)) pool mark
  drains _ _ _ _ _ _ law := law.of_eq rfl rfl rfl rfl rfl
  resets _ busy laws law := law.resetPort laws.1.1.1 laws.1.1.2 laws.1.2 laws.2 busy

/-- Settles O59: a charge is held by the entry or the RESPONSE of its request until the RESPONSE has been sent, and CREDIT is granted
when nothing is held. -/
theorem stepKeepsTheCredit : Obligations.StepKeepsTheCredit := fun s t boot use tags law next =>
  (creditLaw_iff t).2 ((Kept.and boot_useCounts_tags_kept credit_kept).step
    (fun cs h => ⟨⟨⟨h.1.1.1.queue cs, h.1.1.2.queue cs⟩, h.1.2.queue cs⟩, h.2.of_eq rfl rfl rfl rfl rfl⟩) next
    ⟨⟨⟨boot, use⟩, (tagLaw_iff s).1 tags⟩, (creditLaw_iff s).1 law⟩).2

/-! ## The queue of waiting commands -/

theorem State.entryEnded_pending (s : State) (e : TrackEntry) (x : EntryEnd) : (s.entryEnded e x).pending = s.pending := by
  have answered : (s.entryOut e x).pending = s.pending := by
    show (s.answerEntry e x).pending = s.pending
    unfold State.answerEntry
    split
    · cases x <;> rfl
    · rfl
  rw [State.entryEnded_eq, State.reportTracking_pending]
  refine State.installPending_keeps (P := fun t => t.pending = s.pending) answered fun d c _ => ?_
  cases c <;> exact answered

theorem Atom.pending {s t : State} (a : Atom s t) : t.pending = s.pending := by
  cases a with
  | neutral h => exact h.pending
  | dispatch =>
    simp only [State.dispatchEntry]
    split <;> rfl
  | entryEnded x => exact s.entryEnded_pending _ x
  | @install d change => cases change <;> rfl
  | @responseSent r =>
    unfold State.responseSent
    cases r.pool <;> (split <;> rfl)
  | bootLoads im => exact State.applyImage_keeps (g := State.pending) (fun _ _ _ => rfl) (fun _ _ _ => rfl) (fun _ _ _ => rfl) s im
  | @pulseEnds p u => cases u.answerTo <;> rfl
  | _ => rfl

theorem pending_kept (cs : List Instr) : Alone (fun s => s.pending = cs) fun _ s => s.pending = cs where
  reset _ _ _ h := h
  linkReset _ _ h := h
  atom a _ h := a.pending.trans h
  placed _ _ _ _ h := h
  taken a _ h := a.pending.trans h
  answered _ _ _ _ h := h
  drains _ _ _ _ _ _ h := h
  resets {f s p} _ _ _ h := by
    have ended := State.endPortEntries_keeps (P := fun t => t.pending = cs) (s := s.updPort p fun q => q.beginPulse f.pair) (p := p)
      (fun {t e} _ ht => by
        rw [State.endEntry_eq]
        refine (State.dispatchAll_keeps (P := fun t => t.pending = cs) (fun u a i hu oldest free => ?_) ?_).1
        · exact (Atom.dispatch oldest free).pending.trans hu
        · exact (t.entryEnded_pending e _).trans ht) h
    exact Atoms.resetPort s p f.pair |>.rec (motive := fun t _ => t.pending = cs) ended fun _ a ih => a.pending.trans ih

/-- Settles O3: every command answers by an event, and no event touches the queue of waiting commands. -/
theorem everyCommandAnswersNextAndKeepsTheQueue : Obligations.EveryCommandAnswersNextAndKeepsTheQueue := fun c s => by
  obtain ⟨t, next, event⟩ := Event.exec c s
  exact ⟨t, next, (pending_kept s.pending).event event rfl⟩

end Sys2Proof.Machine
end

section
/-! PROOFS. What follows within an event: what it leaves alone, that it does nothing where nothing follows, and that nothing more follows
after it. -/

namespace Sys2Proof.Machine

/-! ## What a port keeps (R42, R82, R88, R91) -/

/-- What every service, settle and stop of a port leaves alone in it. -/
def PortFrame (q r : Port) : Prop :=
  r.config = q.config ∧ r.holdRequest = q.holdRequest ∧ r.pace = q.pace ∧ r.pulse = q.pulse ∧ r.stallReport = q.stallReport ∧
    ∃ n, r.counters = { q.counters with issued := n }

theorem PortFrame.refl (q : Port) : PortFrame q q := ⟨rfl, rfl, rfl, rfl, rfl, _, rfl⟩

theorem PortFrame.trans {q r u : Port} (h : PortFrame q r) (g : PortFrame r u) : PortFrame q u := by
  obtain ⟨c, hr, pa, pu, st, n, hn⟩ := h
  obtain ⟨c', hr', pa', pu', st', m, hm⟩ := g
  exact ⟨c'.trans c, hr'.trans hr, pa'.trans pa, pu'.trans pu, st'.trans st, m, by rw [hm, hn]⟩

theorem PortFrame.issueIn (q : Port) (k : SlotId) (h : Holder) (cmd : AccessCommand) : PortFrame q (q.issueIn k h cmd) :=
  ⟨rfl, rfl, rfl, rfl, rfl, _, rfl⟩

theorem PortFrame.issueUpkeep (q : Port) (k : SlotId) : PortFrame q (q.issueUpkeep k) := ⟨rfl, rfl, rfl, rfl, rfl, _, rfl⟩

theorem PortFrame.turnAfterCopy (q : Port) (pacing : Pacing) : PortFrame q (q.turnAfterCopy pacing) := by
  unfold Port.turnAfterCopy
  split <;> exact ⟨rfl, rfl, rfl, rfl, rfl, _, rfl⟩

theorem PortFrame.lockFor (q : Port) (e : TrackEntry) : PortFrame q (q.lockFor e) := by
  rcases q.lockFor_cases e with h | h <;> rw [h] <;> exact ⟨rfl, rfl, rfl, rfl, rfl, _, rfl⟩

theorem PortFrame.takeHold (q : Port) : PortFrame q q.takeHold := ⟨rfl, rfl, rfl, rfl, rfl, _, rfl⟩

theorem PortFrame.becomeHeld (q : Port) : PortFrame q q.becomeHeld := ⟨rfl, rfl, rfl, rfl, rfl, _, rfl⟩

theorem PortFrame.enterStopped (q : Port) : PortFrame q q.enterStopped := by
  unfold Port.enterStopped
  simp only
  split <;> exact ⟨rfl, rfl, rfl, rfl, rfl, _, rfl⟩

theorem PortFrame.settle (q : Port) : PortFrame q q.settle := by
  unfold Port.settle
  split
  · split
    · exact .refl q
    · exact .becomeHeld q
  · split
    · exact .refl q
    · exact .enterStopped q
  · exact .refl q

theorem PortFrame.modeEntersStop (q : Port) : PortFrame q q.modeEntersStop := by
  unfold Port.modeEntersStop
  split
  · split
    · exact ⟨rfl, rfl, rfl, rfl, rfl, _, rfl⟩
    · exact .enterStopped q
  · exact .refl q

/-- A port that is neither ACTIVE nor SETTLING (R82, R88, R91). -/
def Port.rests (q : Port) : Prop := q.state ≠ .active ∧ ∀ x, q.state ≠ .settling x

theorem Port.settle_of_rests {q : Port} (h : q.rests) : q.settle = q := by
  unfold Port.settle
  split
  next settling => exact absurd settling (h.2 _)
  next settling => exact absurd settling (h.2 _)
  · rfl

theorem Port.modeEntersStop_of_rests {q : Port} (h : q.rests) : q.modeEntersStop = q := by
  unfold Port.modeEntersStop
  split
  next active => exact absurd active h.1
  · rfl

/-! ## The frame of what follows -/

theorem FollowUpFrame.refl (s : State) : FollowUpFrame s s where
  fields := ⟨rfl, rfl, rfl, rfl, rfl, rfl, rfl, rfl⟩
  queue := List.Sublist.refl _
  tracking := List.prefix_refl _
  windows _ := ⟨_, rfl⟩
  channels _ := ⟨_, _, rfl⟩
  ports p := PortFrame.refl _
  resting _ _ _ := rfl
  link := ⟨[], by simp⟩
  modes := ⟨rfl, rfl, rfl⟩
  notices := ⟨rfl, rfl⟩
  boot := ⟨_, rfl⟩
  quiet _ := ⟨rfl, rfl⟩

theorem FollowUpFrame.trans {s t u : State} (h : FollowUpFrame s t) (g : FollowUpFrame t u) : FollowUpFrame s u where
  fields := by
    obtain ⟨a, b, c, d, e, f, i, j⟩ := h.fields
    obtain ⟨a', b', c', d', e', f', i', j'⟩ := g.fields
    exact ⟨a'.trans a, b'.trans b, c'.trans c, d'.trans d, e'.trans e, f'.trans f, i'.trans i, j'.trans j⟩
  queue := g.queue.trans h.queue
  tracking := h.tracking.trans g.tracking
  windows i := by
    obtain ⟨n, hn⟩ := h.windows i
    obtain ⟨m, hm⟩ := g.windows i
    exact ⟨m, by rw [hm, hn]⟩
  channels c := by
    obtain ⟨x, b, hx⟩ := h.channels c
    obtain ⟨y, d, hy⟩ := g.channels c
    exact ⟨y, d, by rw [hy, hx]⟩
  ports p := PortFrame.trans (h.ports p) (g.ports p)
  resting p active settling := by
    have same := h.resting p active settling
    rw [g.resting p (by rw [same]; exact active) (by rw [same]; exact settling), same]
  link := by
    obtain ⟨rs, hr⟩ := h.link
    obtain ⟨rs', hr'⟩ := g.link
    exact ⟨rs ++ rs', by rw [hr', hr, List.append_assoc]⟩
  modes := ⟨g.modes.1.trans h.modes.1, g.modes.2.1.trans h.modes.2.1, g.modes.2.2.trans h.modes.2.2⟩
  notices := ⟨g.notices.1.trans h.notices.1, g.notices.2.trans h.notices.2⟩
  boot := by
    obtain ⟨r, hr⟩ := h.boot
    obtain ⟨r', hr'⟩ := g.boot
    exact ⟨r', by rw [hr', hr]⟩
  quiet running := by
    obtain ⟨mode, nu⟩ := h.quiet running
    obtain ⟨mode', nu'⟩ := g.quiet (mode ▸ running)
    exact ⟨mode'.trans mode, nu'.trans nu⟩

/-- One port changes, within its frame, and not at all if it rests. -/
theorem FollowUpFrame.updPort (s : State) (p : PortId) (f : Port → Port) (frame : PortFrame (s.port p) (f (s.port p)))
    (rests : (s.port p).rests → f (s.port p) = s.port p) : FollowUpFrame s (s.updPort p f) :=
  { FollowUpFrame.refl s with
    windows := fun _ => ⟨_, rfl⟩
    channels := fun _ => ⟨_, _, rfl⟩
    ports := fun q => by
      rw [State.port_updPort]
      split
      next same => exact same ▸ frame
      · exact PortFrame.refl _
    resting := fun q active settling => by
      rw [State.port_updPort]
      split
      next same =>
        subst same
        exact rests ⟨active, settling⟩
      · rfl }

theorem FollowUpFrame.settle (s : State) (p : PortId) : FollowUpFrame s (s.updPort p Port.settle) :=
  .updPort s p _ (.settle _) Port.settle_of_rests

theorem FollowUpFrame.dispatchEntry (s : State) (e : QueueEntry) (i : TrackIdx) : FollowUpFrame s (s.dispatchEntry e i) := by
  obtain ⟨-, nu, mode, boot⟩ := s.dispatchEntry_keeps e i
  obtain ⟨deferred, queue, tracking, tags, mgmt, port, window⟩ := s.dispatchEntry_same e i
  have rest : (s.dispatchEntry e i).pending = s.pending ∧ (s.dispatchEntry e i).resetn = s.resetn ∧
      (s.dispatchEntry e i).engineEnable = s.engineEnable ∧ (s.dispatchEntry e i).managers = s.managers ∧
      (s.dispatchEntry e i).cause = s.cause ∧ (s.dispatchEntry e i).channel = s.channel ∧
      (s.dispatchEntry e i).mc.period = s.mc.period ∧ (s.dispatchEntry e i).mc.timer = s.mc.timer ∧
      (s.dispatchEntry e i).mc.wakeOnRequest = s.mc.wakeOnRequest := by
    simp only [State.dispatchEntry]
    split <;> exact ⟨rfl, rfl, rfl, rfl, rfl, rfl, rfl, rfl, rfl⟩
  obtain ⟨pending, resetn, engine, managers, cause, channel, modes⟩ := rest
  refine ⟨⟨pending, resetn, deferred, tags, engine, mgmt, managers, cause⟩, queue ▸ List.erase_sublist, ?_, fun j => ?_,
    fun c => ⟨_, _, by rw [channel]⟩, fun p => by rw [port]; exact PortFrame.refl _, fun p _ _ => by rw [port],
    ⟨_, s.dispatchEntry_li e i⟩, modes, by rw [nu]; exact ⟨rfl, rfl⟩, ⟨_, by rw [boot]⟩, fun _ => ⟨mode, nu⟩⟩
  · rw [tracking, List.map_append]
    exact List.prefix_append _ _
  · rw [window, State.window_setWindow]
    split
    next same => exact ⟨_, by rw [← same]⟩
    · exact ⟨_, rfl⟩

/-- The passage to QUIET, and on to STOP (R137, R138). -/
theorem FollowUpFrame.reachQuiet {s : State} (due : s.mc.quietDue = true) : FollowUpFrame s s.reachQuiet := by
  have quiescing : s.mc.mode = .quiescing := by
    simp only [ModeController.quietDue, Bool.and_eq_true, beq_iff_eq] at due
    exact due.1
  unfold State.reachQuiet
  simp only
  split
  · refine { FollowUpFrame.refl s with
      windows := fun _ => ⟨_, rfl⟩
      channels := fun _ => ⟨_, _, rfl⟩
      ports := fun p => ?_, resting := fun p active settling => ?_
      notices := ⟨by simp [State.changeMode, State.raise, State.enterStop, State.setStopOnQuiet, State.mapPorts],
        by simp [State.changeMode, State.raise, State.enterStop, State.setStopOnQuiet, State.mapPorts]⟩
      quiet := fun h => absurd quiescing h }
    · rw [State.enterStop, State.port_mapPorts]
      exact PortFrame.modeEntersStop _
    · rw [State.enterStop, State.port_mapPorts]
      exact Port.modeEntersStop_of_rests ⟨active, settling⟩
  · exact { FollowUpFrame.refl s with
      windows := fun _ => ⟨_, rfl⟩
      channels := fun _ => ⟨_, _, rfl⟩
      notices := ⟨by simp [State.changeMode], by simp [State.changeMode]⟩
      quiet := fun h => absurd quiescing h }

theorem FollowUpFrame.setChannel (s : State) (c : ChannelId) (u : Option CopyUnit) (b : Bool) :
    FollowUpFrame s (s.setChannel c { s.channel c with unit := u, permit := b }) :=
  { FollowUpFrame.refl s with
    windows := fun _ => ⟨_, rfl⟩
    ports := fun _ => PortFrame.refl _
    resting := fun _ _ _ => rfl
    channels := fun d => by
      rw [State.channel_setChannel]
      split
      next same => exact ⟨u, b, by rw [← same]⟩
      · exact ⟨_, _, rfl⟩ }

theorem FollowUpFrame.reportUnits (s : State) : FollowUpFrame s s.reportUnits :=
  { FollowUpFrame.refl s with
    windows := fun _ => ⟨_, rfl⟩, channels := fun _ => ⟨_, _, rfl⟩, ports := fun _ => PortFrame.refl _, resting := fun _ _ _ => rfl
    quiet := fun _ => ⟨rfl, rfl⟩ }

theorem FollowUpFrame.setRead (s : State) (r : Option BootRead) : FollowUpFrame s { s with boot := { s.boot with inFlight := r } } :=
  { FollowUpFrame.refl s with
    windows := fun _ => ⟨_, rfl⟩, channels := fun _ => ⟨_, _, rfl⟩, ports := fun _ => PortFrame.refl _, resting := fun _ _ _ => rfl
    boot := ⟨r, rfl⟩ }

theorem FollowUpFrame.updEntry (s : State) (i : TrackIdx) (f : TrackEntry → TrackEntry) (index : ∀ e, (f e).index = e.index) :
    FollowUpFrame s (s.updEntry i f) :=
  { FollowUpFrame.refl s with
    windows := fun _ => ⟨_, rfl⟩, channels := fun _ => ⟨_, _, rfl⟩, ports := fun _ => PortFrame.refl _, resting := fun _ _ _ => rfl
    tracking := by rw [s.updEntry_map i f TrackEntry.index index] }

theorem FollowUpFrame.serve (s : State) (p : PortId) : FollowUpFrame s (s.serve p) := by
  have busy : ∀ {x : Candidate} {t : State} (f : Port → Port), s.arbiterChoice p = some x → t.port p = s.port p →
      PortFrame (s.port p) (f (s.port p)) → FollowUpFrame t (t.updPort p f) := fun f chosen same frame =>
    .updPort _ p f (same ▸ frame) fun rests => absurd (same ▸ (State.arbiterChoice_active chosen).2) rests.1
  refine State.serve_keeps (P := FollowUpFrame s) (.refl s) (fun chosen => ?hold) (fun k ks chosen _ => ?upkeep)
    (fun k ks chosen _ => ?boot) (fun c cur k ks chosen _ _ => ?copy) fun e k ks chosen _ => ?entry
  case hold => exact busy _ chosen rfl (.takeHold _)
  case upkeep => exact busy (fun q => q.issueUpkeep k) chosen rfl (.issueUpkeep _ k)
  case boot =>
    obtain ⟨rfl, -⟩ := State.arbiterChoice_boot chosen
    exact (busy (fun q => q.issueIn k .boot (.read s.boot.nextRead.address s.boot.nextRead.count)) chosen rfl
      (.issueIn _ k _ _)).trans (.setRead _ _)
  case copy =>
    exact ((FollowUpFrame.setChannel s c _ _).trans (busy
      (fun q => (q.issueIn k (.copy c ((s.channel c).issuedUnit k).phase.half)
        (cur.command ((s.channel c).issuedUnit k).phase)).turnAfterCopy cur.desc.pacing) chosen rfl
      ((PortFrame.issueIn _ k _ _).trans (.turnAfterCopy _ _)))).trans (.reportUnits _)
  case entry =>
    exact (FollowUpFrame.updEntry s e.index (fun x => { x with state := .issued k }) fun _ => rfl).trans (busy
      (fun q => { (q.issueIn k (.tracking e.index) e.command).lockFor e with turn := .copy }) chosen rfl
      (((PortFrame.issueIn _ k _ _).trans (.lockFor _ e)).trans ⟨rfl, rfl, rfl, rfl, rfl, _, rfl⟩))

theorem FollowUpFrame.followUp (s : State) : FollowUpFrame s s.followUp :=
  State.followUp_keeps (P := FollowUpFrame s) (fun _ _ _ h _ _ => h.trans (.dispatchEntry _ _ _)) (fun _ h due => h.trans (.reachQuiet due))
    (fun _ p h => h.trans (.serve _ p)) (fun _ p h => h.trans (.settle _ p)) (.refl s)

/-! ## Where nothing follows -/

/-- A port that keeps its record leaves the state as it is. -/
theorem State.updPort_same {s : State} {p : PortId} {f : Port → Port} (h : f (s.port p) = s.port p) : s.updPort p f = s := by
  rw [State.updPort_eq h, State.port]
  simp

/-- A port that is not SETTLING, or still has an ISSUED slot, does not settle (R88, R91). -/
theorem Port.settle_same {q : Port} (h : (∀ x, q.state ≠ .settling x) ∨ q.anyIssued = true) : q.settle = q := by
  unfold Port.settle
  rcases h with h | h
  · split
    next settling => exact absurd settling (h _)
    next settling => exact absurd settling (h _)
    · rfl
  · split
    · rw [if_pos h]
    · rw [if_pos h]
    · rfl

/-- Serving stops when nothing is chosen (R82). -/
theorem State.serve_iterate {s : State} {p : PortId} (h : s.arbiterChoice p = none) (n : Nat) : (fun t => State.serve t p)^[n] s = s :=
  Function.iterate_fixed (State.serve_none h) n

/-- An arbiter that has chosen nothing leaves its port to settle (R82, R88, R91). -/
theorem State.arbitrate_none {s : State} {p : PortId} (h : s.arbiterChoice p = none) : s.arbitrate p = s.updPort p Port.settle := by
  show ((fun t => State.serve t p)^[_] s).updPort p Port.settle = _
  rw [State.serve_iterate h]

theorem State.arbitrate_same {s : State} {p : PortId} (h : s.arbiterChoice p = none)
    (settled : (∀ x, (s.port p).state ≠ .settling x) ∨ (s.port p).anyIssued = true) : s.arbitrate p = s := by
  rw [State.arbitrate_none h, State.updPort_same (Port.settle_same settled)]

theorem ModeController.quietDue_false {m : ModeController} (h : m.mode = .quiescing → m.quiesceConditions = false) :
    m.quietDue = false := by
  unfold ModeController.quietDue
  by_cases quiescing : m.mode = .quiescing
  · simp [h quiescing]
  · simp [quiescing]

theorem NothingFollows.settled {s : State} (h : NothingFollows s) (p : PortId) :
    (∀ x, (s.port p).state ≠ .settling x) ∨ (s.port p).anyIssued = true := by
  by_cases idle : (s.port p).anyIssued = true
  · exact .inr idle
  · exact .inl fun x settling => idle (h.settles p x settling)

/-- Nothing comes about where nothing follows (R42, R82, R88, R91, R137). -/
theorem State.followUp_same {s : State} (h : NothingFollows s) : s.followUp = s := by
  have dispatched : s.dispatchAll = s := State.dispatchAll_none (State.oldestDispatchable_none.2 h.dispatch)
  have tested : s.testQuiet = s := by simp [State.testQuiet, ModeController.quietDue_false h.quiet]
  have arbitrated : ∀ p, s.arbitrate p = s := fun p => State.arbitrate_same (h.arbiters p) (h.settled p)
  simp only [State.followUp, dispatched, tested, arbitrated]

/-! ## How long an arbiter serves -/

/-- A choice but for the hold request has a free slot (R78, R82). -/
theorem State.arbiterChoice_slot {s : State} {p : PortId} {x : Candidate} (h : s.arbiterChoice p = some x) (other : x ≠ .hold) :
    ∃ k ks, (s.port p).freeOrder = k :: ks := by
  have slot : (s.port p).freeOrder ≠ [] := by
    cases State.arbiterChoice_chosenBy h with
    | hold => exact absurd rfl other
    | _ => assumption
  exact List.exists_cons_of_ne_nil slot

/-- A channel whose half has been chosen has a current descriptor (R116). -/
theorem State.copyReady_current {s : State} {p : PortId} {b : Bool} {c : ChannelId} (h : s.copyReady p b = some c) :
    ∃ cur, (s.channel c).current = some cur := by
  have offers := List.find?_some h
  simp only [Bool.and_eq_true, State.offersTo, State.offer] at offers
  cases hc : (s.channel c).current with
  | some cur => exact ⟨cur, rfl⟩
  | none => simp [hc] at offers

theorem State.arbiterChoice_copy {s : State} {p : PortId} {c : ChannelId} (h : s.arbiterChoice p = some (.copy c)) :
    ∃ b, s.copyReady p b = some c := by
  cases State.arbiterChoice_chosenBy h with
  | shared _ shared =>
    rcases State.sharedChoice_cases shared with ⟨e, he, -⟩ | ⟨d, b, hd, ready⟩
    · cases he
    · cases hd
      exact ⟨b, ready⟩

/-- What an arbiter serves, by its choice (R82, R83). -/
inductive Served (s : State) (p : PortId) : State → Prop
  | hold (chosen : s.arbiterChoice p = some .hold) : Served s p (s.updPort p Port.takeHold)
  | upkeep {k : SlotId} {ks : List SlotId} (chosen : s.arbiterChoice p = some .upkeep) (order : (s.port p).freeOrder = k :: ks) :
      Served s p (s.updPort p fun q => q.issueUpkeep k)
  | boot {k : SlotId} {ks : List SlotId} (chosen : s.arbiterChoice p = some .boot) (order : (s.port p).freeOrder = k :: ks) :
      Served s p (s.issueBootRead k)
  | copy {c : ChannelId} {cur : CurrentCopy} {k : SlotId} {ks : List SlotId} (chosen : s.arbiterChoice p = some (.copy c))
      (current : (s.channel c).current = some cur) (order : (s.port p).freeOrder = k :: ks) : Served s p (s.issueHalf c cur p k)
  | upstream {e : TrackEntry} {k : SlotId} {ks : List SlotId} (chosen : s.arbiterChoice p = some (.upstream e))
      (order : (s.port p).freeOrder = k :: ks) : Served s p (s.issueEntry p e k)

theorem State.serve_served {s : State} {p : PortId} (h : s.arbiterChoice p ≠ none) : Served s p (s.serve p) := by
  obtain ⟨x, chosen⟩ := Option.ne_none_iff_exists'.1 h
  cases x with
  | hold =>
    have : s.serve p = s.updPort p Port.takeHold := by simp [State.serve, chosen]
    exact this ▸ .hold chosen
  | upkeep =>
    obtain ⟨k, ks, order⟩ := State.arbiterChoice_slot chosen nofun
    have : s.serve p = s.updPort p fun q => q.issueUpkeep k := by simp [State.serve, chosen, order]
    exact this ▸ .upkeep chosen order
  | boot =>
    obtain ⟨k, ks, order⟩ := State.arbiterChoice_slot chosen nofun
    have : s.serve p = s.issueBootRead k := by simp [State.serve, chosen, order]
    exact this ▸ .boot chosen order
  | copy c =>
    obtain ⟨k, ks, order⟩ := State.arbiterChoice_slot chosen nofun
    obtain ⟨b, ready⟩ := State.arbiterChoice_copy chosen
    obtain ⟨cur, current⟩ := State.copyReady_current ready
    have : s.serve p = s.issueHalf c cur p k := by simp [State.serve, chosen, order, current]
    exact this ▸ .copy chosen current order
  | upstream e =>
    obtain ⟨k, ks, order⟩ := State.arbiterChoice_slot chosen nofun
    have : s.serve p = s.issueEntry p e k := by simp [State.serve, chosen, order]
    exact this ▸ .upstream chosen order

/-- The issue of a half changes its port by one issue (R117). -/
theorem State.port_issueHalf (s : State) (c : ChannelId) (cur : CurrentCopy) (p : PortId) (k : SlotId) (q : PortId) :
    (s.issueHalf c cur p k).port q =
      if p = q then ((s.port p).issueIn k (.copy c ((s.channel c).issuedUnit k).phase.half)
        (cur.command ((s.channel c).issuedUnit k).phase)).turnAfterCopy cur.desc.pacing
      else s.port q :=
  State.port_updPort s p q fun q => (q.issueIn k (.copy c ((s.channel c).issuedUnit k).phase.half)
    (cur.command ((s.channel c).issuedUnit k).phase)).turnAfterCopy cur.desc.pacing

theorem State.port_issueEntry (s : State) (p : PortId) (e : TrackEntry) (k : SlotId) (q : PortId) :
    (s.issueEntry p e k).port q =
      if p = q then { ((s.port p).issueIn k (.tracking e.index) e.command).lockFor e with turn := .copy } else s.port q :=
  State.port_updPort _ _ _ _

theorem State.port_issueBootRead (s : State) (k : SlotId) (q : PortId) :
    (s.issueBootRead k).port q =
      if 0 = q then (s.port 0).issueIn k .boot (.read s.boot.nextRead.address s.boot.nextRead.count) else s.port q :=
  State.port_updPort s 0 q fun q => q.issueIn k .boot (.read s.boot.nextRead.address s.boot.nextRead.count)

/-- A service takes a slot from the free-slot order, or ends the serving (R78, R83, R87). -/
theorem Served.spends {s t : State} {p : PortId} (h : Served s p t) :
    (t.port p).state = .settling .held ∨ (t.port p).freeOrder.length + 1 = (s.port p).freeOrder.length := by
  cases h with
  | hold => exact .inl (by rw [State.port_updPort_self]; rfl)
  | upkeep _ order =>
    rw [State.port_updPort_self]
    exact .inr (by simp [Port.issueUpkeep, Port.issueIn, Port.sendIn, order])
  | boot chosen order =>
    obtain ⟨rfl, -⟩ := State.arbiterChoice_boot chosen
    rw [State.port_issueBootRead, if_pos rfl]
    exact .inr (by simp [Port.issueIn, Port.sendIn, order])
  | copy _ _ order =>
    rw [State.port_issueHalf, if_pos rfl]
    refine .inr ?_
    unfold Port.turnAfterCopy
    split <;> simp [Port.issueIn, Port.sendIn, order]
  | @upstream e _ _ _ order =>
    rw [State.port_issueEntry, if_pos rfl]
    refine .inr ?_
    rcases ((s.port p).issueIn _ (.tracking e.index) e.command).lockFor_cases e with same | same <;> rw [same] <;>
      simp [Port.issueIn, Port.sendIn, order]

theorem State.arbiterChoice_of_state {s : State} {p : PortId} (h : (s.port p).state ≠ .active) : s.arbiterChoice p = none := by
  by_contra chosen
  obtain ⟨x, hx⟩ := Option.ne_none_iff_exists'.1 chosen
  exact h (State.arbiterChoice_active hx).2

/-- An arbiter has served all that it can after one service more than it has free slots (R82). -/
theorem State.serve_exhausts {s : State} {p : PortId} {n : Nat} (h : (s.port p).freeOrder.length < n) :
    ((fun t => State.serve t p)^[n] s).arbiterChoice p = none := by
  induction n generalizing s with
  | zero => omega
  | succ n ih =>
    rw [Function.iterate_succ_apply]
    by_cases chosen : s.arbiterChoice p = none
    · rw [State.serve_none chosen, State.serve_iterate chosen]
      exact chosen
    · rcases (State.serve_served chosen).spends with settling | spent
      · have none : (s.serve p).arbiterChoice p = none := State.arbiterChoice_of_state (by simp [settling])
        rw [State.serve_iterate none]
        exact none
      · exact ih (by omega)

/-- An arbiter serves while it has chosen something (R82). -/
theorem State.arbitrate_step {s : State} {p : PortId} (h : s.arbiterChoice p ≠ none) : s.arbitrate p = (s.serve p).arbitrate p := by
  have unfold_once : s.arbitrate p = ((fun t => State.serve t p)^[(s.port p).freeOrder.length] (s.serve p)).updPort p Port.settle := rfl
  have unfolded : (s.serve p).arbitrate p =
      ((fun t => State.serve t p)^[((s.serve p).port p).freeOrder.length + 1] (s.serve p)).updPort p Port.settle := rfl
  rw [unfold_once, unfolded]
  rcases (State.serve_served h).spends with settling | spent
  · have none : (s.serve p).arbiterChoice p = none := State.arbiterChoice_of_state (by simp [settling])
    rw [State.serve_iterate none, State.serve_iterate none]
  · rw [spent]

end Sys2Proof.Machine
end

section
/-! PROOFS. When an arbiter has nothing to choose, what keeps it so, and why nothing more follows after what follows in an event. -/

namespace Sys2Proof.Machine

/-! ## An arbiter with nothing to choose (R82 to R86) -/

/-- Neither an upstream entry nor a copy half waits for the port, or a SWAP waits for its ISSUED slots (R83, R85). -/
theorem State.sharedChoice_none {s : State} {p : PortId} : s.sharedChoice p = none ↔
    (∃ e, s.oldestWaiting p = some e ∧ e.isSwapRead = true ∧ (s.port p).anyIssued = true) ∨
      (s.oldestWaiting p = none ∧ ∀ b, s.copyReady p b = none) := by
  unfold State.sharedChoice
  rcases hw : s.oldestWaiting p with _ | e
  · cases ht : s.copyReady p true <;> cases hf : s.copyReady p false <;> cases (s.port p).turn <;> simp [ht, hf]
  · by_cases swap : e.isSwapRead = true
    · by_cases busy : (s.port p).anyIssued = true <;> simp [swap, busy]
    · cases ht : s.copyReady p true <;> cases hf : s.copyReady p false <;> cases (s.port p).turn <;> simp [swap]

/-- No half of either class is ready when no channel offers one (R83, R116). -/
theorem State.copyReady_none {s : State} {p : PortId} : (∀ b, s.copyReady p b = none) ↔ ∀ c, s.offersTo c p = false := by
  simp only [State.copyReady, List.find?_eq_none, List.mem_cons, List.not_mem_nil, or_false, Bool.and_eq_true, beq_iff_eq, not_and]
  constructor
  · intro h c
    by_contra offers
    exact h _ c (by fin_cases c <;> simp) (by simpa using offers) rfl
  · intro h b c _ offers
    simp [h] at offers

/-- Why an arbiter has chosen nothing (R82 to R86). -/
inductive NothingChosen (s : State) (p : PortId) : Prop
  | reset (h : s.resetn = true)
  | inactive (h : (s.port p).state ≠ .active)
  | locked {i : TrackIdx} (lock : (s.port p).lock = some i)
      (busy : ∀ e, s.entry? i = some e → e.state = .waiting → (s.port p).freeOrder = [])
  | full (lock : (s.port p).lock = none) (request : (s.port p).holdRequest = false) (slots : (s.port p).freeOrder = [])
  | quiet (lock : (s.port p).lock = none) (request : (s.port p).holdRequest = false) (upkeep : (s.port p).upkeep.offers = false)
      (boot : p = 0 → s.bootOffers = false) (shared : s.sharedChoice p = none)

theorem State.arbiterChoice_none {s : State} {p : PortId} : s.arbiterChoice p = none ↔ NothingChosen s p := by
  constructor
  · intro none
    by_cases off : s.resetn = true
    · exact .reset off
    by_cases active : (s.port p).state = .active
    swap
    · exact .inactive active
    simp only [State.arbiterChoice, off, active, bne_self_eq_false, Bool.or_false, Bool.false_eq_true, if_false] at none
    rcases lock : (s.port p).lock with _ | i
    · simp only [lock] at none
      by_cases slots : (s.port p).freeOrder = []
      · by_cases request : (s.port p).holdRequest = true
        · simp [slots, request] at none
        · exact .full lock (by simpa using request) slots
      · simp only [List.isEmpty_eq_false_iff.2 slots, Bool.not_false, Bool.and_true, Bool.not_true, Bool.false_eq_true, if_false] at none
        split_ifs at none with upkeep request boot
        exact .quiet lock (by simpa using request) (by simpa using upkeep)
          (fun port => by simpa [port] using boot) none
    · refine .locked lock fun e entry waits => ?_
      simpa [lock, entry, waits] using none
  · intro h
    cases h with
    | reset h => simp [State.arbiterChoice, h]
    | inactive h => exact State.arbiterChoice_of_state h
    | locked lock busy =>
      simp only [State.arbiterChoice, lock]
      split
      · rfl
      · split
        next e entry =>
          have := busy e entry
          by_cases waits : e.state = .waiting <;> simp_all
        · rfl
    | full lock request slots => simp [State.arbiterChoice, lock, request, slots]
    | quiet lock request upkeep boot shared =>
      simp only [State.arbiterChoice, lock, request, upkeep, shared]
      by_cases port : p = 0 <;> simp [boot, port]

/-- What the arbiter of port p looks at has not grown (R82 to R86). -/
structure Calmer (s t : State) (p : PortId) : Prop where
  reset : s.resetn = true → t.resetn = true
  state : (t.port p).state = .active → (s.port p).state = .active
  lock : (t.port p).lock = (s.port p).lock
  slots : (s.port p).freeOrder = [] → (t.port p).freeOrder = []
  request : (s.port p).holdRequest = false → (t.port p).holdRequest = false
  upkeep : (s.port p).upkeep.offers = false → (t.port p).upkeep.offers = false
  issued : (s.port p).anyIssued = true → (t.port p).anyIssued = true
  boot : p = 0 → s.bootOffers = false → t.bootOffers = false
  entry : ∀ i, (s.port p).lock = some i → t.entry? i = s.entry? i
  waits : t.oldestWaiting p = s.oldestWaiting p
  offers : ∀ c, s.offersTo c p = false → t.offersTo c p = false

/-- An arbiter with nothing to choose has nothing to choose where what it looks at has not grown (R82). -/
theorem Calmer.keeps {s t : State} {p : PortId} (h : Calmer s t p) (chosen : s.arbiterChoice p = none) :
    t.arbiterChoice p = none := by
  rw [State.arbiterChoice_none] at chosen ⊢
  cases chosen with
  | reset off => exact .reset (h.reset off)
  | inactive rests => exact .inactive (mt h.state rests)
  | locked lock busy => exact .locked (h.lock.trans lock) fun e entry waits => h.slots (busy e (h.entry _ lock ▸ entry) waits)
  | full lock request slots => exact .full (h.lock.trans lock) (h.request request) (h.slots slots)
  | quiet lock request upkeep boot shared =>
    refine .quiet (h.lock.trans lock) (h.request request) (h.upkeep upkeep) (fun port => h.boot port (boot port)) ?_
    rw [State.sharedChoice_none] at shared ⊢
    rw [h.waits]
    refine shared.imp (fun ⟨e, oldest, swap, busy⟩ => ⟨e, oldest, swap, h.issued busy⟩) fun ⟨oldest, ready⟩ => ⟨oldest, ?_⟩
    exact State.copyReady_none.2 fun c => h.offers c (State.copyReady_none.1 ready c)

theorem Calmer.trans {s t u : State} {p : PortId} (h : Calmer s t p) (g : Calmer t u p) : Calmer s u p where
  reset := g.reset ∘ h.reset
  state := h.state ∘ g.state
  lock := g.lock.trans h.lock
  slots := g.slots ∘ h.slots
  request := g.request ∘ h.request
  upkeep := g.upkeep ∘ h.upkeep
  issued := g.issued ∘ h.issued
  boot port := g.boot port ∘ h.boot port
  entry i lock := (g.entry i (h.lock.trans lock)).trans (h.entry i lock)
  waits := g.waits.trans h.waits
  offers c := g.offers c ∘ h.offers c

/-- What a channel offers depends on the channel, the engine enable and the pace lines (R116). -/
theorem State.offer_congr {s t : State} {c : ChannelId} (channel : t.channel c = s.channel c) (engine : t.engineEnable = s.engineEnable)
    (pace : ∀ p, (t.port p).pace = (s.port p).pace) : t.offer c = s.offer c := by
  have allows : ∀ d, t.paceAllows (s.channel c) d = s.paceAllows (s.channel c) d := fun d => by
    simp only [State.paceAllows, pace]
  simp only [State.offer, channel, engine, allows]

theorem State.offersTo_congr {s t : State} {c : ChannelId} (channel : t.channel c = s.channel c)
    (engine : t.engineEnable = s.engineEnable) (pace : ∀ p, (t.port p).pace = (s.port p).pace) (p : PortId) :
    t.offersTo c p = s.offersTo c p := by
  simp only [State.offersTo, State.offer_congr channel engine pace]

/-- The arbiter of a port that is as it was (R82 to R86). -/
theorem Calmer.of_port {s t : State} {p : PortId} (reset : s.resetn = true → t.resetn = true) (port : t.port p = s.port p)
    (boot : p = 0 → s.bootOffers = false → t.bootOffers = false)
    (entry : ∀ i, (s.port p).lock = some i → t.entry? i = s.entry? i) (waits : t.oldestWaiting p = s.oldestWaiting p)
    (offers : ∀ c, s.offersTo c p = false → t.offersTo c p = false) : Calmer s t p where
  reset := reset
  state h := port ▸ h
  lock := by rw [port]
  slots h := by rw [port, h]
  request h := by rw [port, h]
  upkeep h := by rw [port, h]
  issued h := by rw [port, h]
  boot := boot
  entry := entry
  waits := waits
  offers := offers

/-- The arbiter of a port looks at that port, at the tracking entries, the channels, the engine enable, the pace lines and the Boot
Reader (R82 to R86). -/
theorem Calmer.of_same {s t : State} {p : PortId} (reset : s.resetn = true → t.resetn = true) (port : t.port p = s.port p)
    (boot : p = 0 → s.bootOffers = false → t.bootOffers = false) (tracking : t.tracking = s.tracking)
    (channel : ∀ c, t.channel c = s.channel c) (engine : t.engineEnable = s.engineEnable)
    (pace : ∀ q, (t.port q).pace = (s.port q).pace) : Calmer s t p :=
  .of_port reset port boot (fun i _ => by simp only [State.entry?, tracking]) (by simp only [State.oldestWaiting, tracking])
    fun c h => by rw [State.offersTo_congr (channel c) engine pace, h]

/-! ## A service of another port (R82) -/

/-- The ports' SWAP locks are held for entries of their own, and the entries have distinct indexes (R51, R85). -/
structure EntriesOwn (s : State) : Prop where
  indexes : (s.tracking.map TrackEntry.index).Nodup
  locks : ∀ p i, (s.port p).lock = some i → ∃ e ∈ s.tracking, e.index = i ∧ e.port = p

/-- One tracking entry has an index (R51). -/
theorem EntriesOwn.unique {s : State} (h : EntriesOwn s) {e x : TrackEntry} (he : e ∈ s.tracking) (hx : x ∈ s.tracking)
    (same : x.index = e.index) : x = e :=
  List.inj_on_of_nodup_map h.indexes hx he same

/-- The entry that an arbiter has chosen is of its port (R83, R85). -/
theorem EntriesOwn.chosen {s : State} (h : EntriesOwn s) {p : PortId} {e : TrackEntry} (chosen : s.arbiterChoice p = some (.upstream e)) :
    e ∈ s.tracking ∧ e.port = p := by
  obtain ⟨mem, own⟩ := State.arbiterChoice_upstream chosen
  refine ⟨mem, own.elim id fun lock => ?_⟩
  obtain ⟨x, hx, index, port⟩ := h.locks p e.index lock
  exact h.unique mem hx index ▸ port

/-- A search finds the same record after a change of records that it does not find. -/
theorem find?_map_same {α : Type} {l : List α} {f : α → α} {P : α → Bool} (h : ∀ x ∈ l, P (f x) = P x ∧ (P x = true → f x = x)) :
    (l.map f).find? P = l.find? P := by
  induction l with
  | nil => rfl
  | cons x l ih =>
    obtain ⟨found, same⟩ := h x (by simp)
    have rest := ih fun y hy => h y (by simp [hy])
    by_cases hp : P x = true
    · simp [hp, same hp]
    · simp [found, hp, rest]

/-- A channel whose half is ISSUED offers none (R116). -/
theorem State.offersTo_issued {s : State} {c : ChannelId} {u : CopyUnit} {k : SlotId} (unit : (s.channel c).unit = some u)
    (half : u.half = .issued k) (p : PortId) : s.offersTo c p = false := by
  have : s.offer c = none := by
    simp only [State.offer, unit]
    split <;> simp_all
  simp [State.offersTo, this]

theorem State.offersTo_setChannel_other {s : State} {c d : ChannelId} (x : Channel) (other : c ≠ d) (p : PortId) :
    (s.setChannel c x).offersTo d p = s.offersTo d p :=
  State.offersTo_congr (s := s) (t := s.setChannel c x) (by simp [State.channel_setChannel, other]) rfl (fun _ => rfl) p

/-- The service of a port leaves every other port as it is (R82). -/
theorem Served.port_other {s t : State} {p q : PortId} (h : Served s q t) (other : q ≠ p) : t.port p = s.port p := by
  cases h with
  | hold => rw [State.port_updPort, if_neg other]
  | upkeep => rw [State.port_updPort, if_neg other]
  | boot chosen =>
    obtain ⟨rfl, -⟩ := State.arbiterChoice_boot chosen
    rw [State.port_issueBootRead, if_neg other]
  | copy => rw [State.port_issueHalf, if_neg other]
  | upstream => rw [State.port_issueEntry, if_neg other]

/-- The pace lines keep their levels (R122). -/
theorem State.pace_serve (s : State) (q p : PortId) : ((s.serve q).port p).pace = (s.port p).pace :=
  ((FollowUpFrame.serve s q).ports p).2.2.1

/-- The service of a port gives no other arbiter anything to choose (R82). -/
theorem Calmer.serve {s : State} (own : EntriesOwn s) {p q : PortId} (other : q ≠ p) : Calmer s (s.serve q) p := by
  by_cases chosen : s.arbiterChoice q = none
  · rw [State.serve_none chosen]
    exact .of_same id rfl (fun _ => id) rfl (fun _ => rfl) rfl fun _ => rfl
  have served := State.serve_served chosen
  have pace := State.pace_serve s q
  have port := served.port_other other
  revert served pace port
  generalize s.serve q = t
  intro served pace port
  cases served with
  | hold => exact .of_same id port (fun _ => id) rfl (fun _ => rfl) rfl pace
  | upkeep => exact .of_same id port (fun _ => id) rfl (fun _ => rfl) rfl pace
  | boot chosen =>
    obtain ⟨rfl, -⟩ := State.arbiterChoice_boot chosen
    exact .of_same id port (fun h => absurd h.symm other) rfl (fun _ => rfl) rfl pace
  | @copy c cur k =>
    refine .of_port id port (fun _ => id) (fun _ _ => rfl) rfl fun d quiet => ?_
    by_cases same : c = d
    · subst same
      have unit : ((s.issueHalf c cur q k).channel c).unit = some ((s.channel c).issuedUnit k) := by simp [State.issueHalf]
      refine State.offersTo_issued (k := k) unit ?_ p
      unfold Channel.issuedUnit
      split <;> rfl
    · rw [← quiet]
      exact State.offersTo_congr (s := s) (t := s.issueHalf c cur q k) (by simp [State.issueHalf, State.channel_setChannel, same]) rfl pace p
  | @upstream e k _ chosen =>
    obtain ⟨mem, ofPort⟩ := own.chosen chosen
    have apart : ∀ x ∈ s.tracking, x.port = p → x.index ≠ e.index := fun x hx hp index =>
      other (ofPort.symm.trans (own.unique mem hx index ▸ hp))
    refine .of_port id port (fun _ => id) (fun i lock => ?_) ?_ fun d quiet => ?_
    · obtain ⟨x, hx, index, hp⟩ := own.locks p i lock
      refine find?_map_same fun y hy => ?_
      by_cases same : y.index = e.index
      · have : e.index ≠ i := fun h => apart x hx hp (index.trans h.symm)
        simp [same, this]
      · simp [same]
    · refine find?_map_same fun y hy => ?_
      by_cases same : y.index = e.index
      · obtain rfl := own.unique mem hy same
        simp [ofPort, beq_false_of_ne other]
      · simp [same]
    · rw [← quiet]
      exact State.offersTo_congr (s := s) (t := s.issueEntry q e k) rfl rfl pace p

/-- The end of a settle gives no arbiter anything to choose (R88, R91). -/
theorem State.arbiterChoice_settle {s : State} {p q : PortId} (chosen : s.arbiterChoice p = none) :
    (s.updPort q Port.settle).arbiterChoice p = none := by
  by_cases settles : (s.port q).settle = s.port q
  · rw [State.updPort_same settles]
    exact chosen
  have rest : (s.port q).settle.state ≠ .active := by
    revert settles
    unfold Port.settle
    split
    · split
      · exact fun h => absurd rfl h
      · simp [Port.becomeHeld, Port.enterHeld]
    · split
      · exact fun h => absurd rfl h
      · unfold Port.enterStopped
        simp only
        split <;> simp [Port.stoppedToHeld, Port.startInterval, Port.enterHeld]
    · exact fun h => absurd rfl h
  by_cases same : q = p
  · subst same
    exact State.arbiterChoice_of_state (by rwa [State.port_updPort_self])
  · refine Calmer.keeps (s := s) (.of_same id (by rw [State.port_updPort, if_neg same]) (fun _ => id) rfl (fun _ => rfl) rfl ?_) chosen
    exact fun r => ((FollowUpFrame.settle s q).ports r).2.2.1

/-- A port that has come to the end of a settle is not SETTLING with every slot at rest (R88, R91). -/
theorem Port.settle_settled (q : Port) : (∀ x, q.settle.state ≠ .settling x) ∨ q.settle.anyIssued = true := by
  unfold Port.settle
  split
  · split
    next busy => exact .inr busy
    · exact .inl fun x => by simp [Port.becomeHeld, Port.enterHeld]
  · split
    next busy => exact .inr busy
    · refine .inl fun x => ?_
      unfold Port.enterStopped
      simp only
      split <;> simp [Port.stoppedToHeld, Port.startInterval, Port.enterHeld]
  next held stopped =>
    refine .inl fun x h => ?_
    cases x with
    | held => exact held h
    | stopped => exact stopped h

/-! ## What dispatch and the quiesce test have left (R41, R42, R137) -/

/-- No entry is dispatchable and the change to QUIET is not due (R42, R137). -/
structure Dispatched (s : State) : Prop where
  entries : ∀ e ∈ s.requestQueue, s.dispatchable e = false
  quiet : s.mc.mode = .quiescing → s.mc.quiesceConditions = false

/-- What dispatch looks at has not grown (R41). -/
theorem State.dispatchable_of {s t : State} {e : QueueEntry} (window : t.window e.window = s.window e.window)
    (indexes : t.tracking.map TrackEntry.index = s.tracking.map TrackEntry.index)
    (bars : ∀ p, (s.port p).state.barsDispatch = true → (t.port p).state.barsDispatch = true) (h : s.dispatchable e = false) :
    t.dispatchable e = false := by
  have index : t.freeIndex?.isSome = s.freeIndex?.isSome := by
    rw [Bool.eq_iff_iff, State.freeIndex_isSome, State.freeIndex_isSome]
    have iff : ∀ u : State, (∃ i, ∀ x ∈ u.tracking, x.index ≠ i) ↔ ∃ i, i ∉ u.tracking.map TrackEntry.index := fun u => by simp
    rw [iff, iff, indexes]
  have barred := bars (s.window e.window).contents.port
  simp only [State.dispatchable, window, index] at h ⊢
  by_cases before : (s.port (s.window e.window).contents.port).state.barsDispatch = true
  · simp [barred before]
  · cases after : (t.port (s.window e.window).contents.port).state.barsDispatch
    · simpa [before] using h
    · simp

/-- Nothing that a service changes makes an entry dispatchable or the quiesce conditions hold (R41, R137). -/
theorem Dispatched.serve {s : State} (h : Dispatched s) (p : PortId) : Dispatched (s.serve p) := by
  by_cases chosen : s.arbiterChoice p = none
  · rwa [State.serve_none chosen]
  have active : (s.port p).state = .active := by
    by_contra rests
    exact chosen (State.arbiterChoice_of_state rests)
  have served := State.serve_served chosen
  have bars : ∀ q, (s.port q).state.barsDispatch = true → ((s.serve p).port q).state.barsDispatch = true := by
    intro q barred
    by_cases same : p = q
    · subst same
      simp [active, PortState.barsDispatch] at barred
    · rw [served.port_other same]
      exact barred
  revert served bars
  generalize s.serve p = t
  intro served bars
  have entries : t.requestQueue = s.requestQueue → t.window = s.window →
      t.tracking.map TrackEntry.index = s.tracking.map TrackEntry.index → ∀ e ∈ t.requestQueue, t.dispatchable e = false :=
    fun queue window indexes e he => State.dispatchable_of (by rw [window]) indexes bars (h.entries e (queue ▸ he))
  cases served with
  | hold => exact ⟨entries rfl rfl rfl, h.quiet⟩
  | upkeep => exact ⟨entries rfl rfl rfl, h.quiet⟩
  | boot => exact ⟨entries rfl rfl rfl, h.quiet⟩
  | @copy c cur k =>
    refine ⟨entries rfl rfl rfl, fun _ => ?_⟩
    have busy : (s.issueHalf c cur p k).someUnit = true := by
      have unit : ((s.issueHalf c cur p k).channel c).unit = some ((s.channel c).issuedUnit k) := by simp [State.issueHalf]
      unfold State.someUnit
      fin_cases c <;> simp_all
    have report : (s.issueHalf c cur p k).mc.unitsInFlight = (s.issueHalf c cur p k).someUnit := rfl
    simp [ModeController.quiesceConditions, report, busy]
  | @upstream e k =>
    exact ⟨entries rfl rfl (s.updEntry_map e.index (fun x => { x with state := .issued k }) TrackEntry.index fun _ => rfl), h.quiet⟩

/-- The end of a settle lets dispatch do nothing new (R41, R88, R91). -/
theorem Port.settle_barsDispatch (q : Port) : q.settle.state.barsDispatch = true ∨ q.state.barsDispatch = false := by
  unfold Port.settle
  split
  next settling => exact .inl (by split <;> simp [settling, Port.becomeHeld, Port.enterHeld, PortState.barsDispatch])
  next settling => exact .inr (by simp [settling, PortState.barsDispatch])
  · cases q.state.barsDispatch <;> simp

theorem Dispatched.settle {s : State} (h : Dispatched s) (p : PortId) : Dispatched (s.updPort p Port.settle) := by
  refine ⟨fun e he => State.dispatchable_of (s := s) rfl rfl (fun q barred => ?_) (h.entries e he), h.quiet⟩
  rw [State.port_updPort]
  split
  next same =>
    subst same
    exact (s.port p).settle_barsDispatch.resolve_right (by simp [barred])
  · exact barred

/-- A port that bars dispatch is not ACTIVE, and STOP leaves it as it is (R41, R91). -/
theorem Port.modeEntersStop_barsDispatch (q : Port) (h : q.state.barsDispatch = true) : q.modeEntersStop = q := by
  unfold Port.modeEntersStop
  split
  next active => simp [active, PortState.barsDispatch] at h
  · rfl

/-- The quiesce test leaves QUIESCING where the quiesce conditions hold, and nothing dispatchable (R137, R138). -/
theorem Dispatched.testQuiet {s : State} (h : s.oldestDispatchable = none) : Dispatched s.testQuiet := by
  have entries := State.oldestDispatchable_none.1 h
  unfold State.testQuiet
  split
  next due =>
    unfold State.reachQuiet
    simp only
    split
    · refine ⟨fun e he => State.dispatchable_of (s := s) rfl rfl (fun q barred => ?_) (entries e he), fun stop => nomatch stop⟩
      rw [State.enterStop, State.port_mapPorts]
      show ((s.port q).modeEntersStop).state.barsDispatch = true
      rwa [Port.modeEntersStop_barsDispatch _ barred]
    · exact ⟨fun e he => State.dispatchable_of (s := s) rfl rfl (fun q barred => barred) (entries e he), fun quiet => nomatch quiet⟩
  next due =>
    refine ⟨entries, fun quiescing => ?_⟩
    simpa [ModeController.quietDue, quiescing] using due

/-! ## Ownership through what follows (R51, R85) -/

theorem EntriesOwn.of_locks {s t : State} (h : EntriesOwn s) (tracking : t.tracking = s.tracking)
    (locks : ∀ p, (t.port p).lock = (s.port p).lock) : EntriesOwn t :=
  ⟨tracking ▸ h.indexes, fun p i lock => tracking ▸ h.locks p i (locks p ▸ lock)⟩

theorem EntriesOwn.dispatchEntry {s : State} (h : EntriesOwn s) (e : QueueEntry) {i : TrackIdx} (free : s.freeIndex? = some i) :
    EntriesOwn (s.dispatchEntry e i) := by
  obtain ⟨-, -, tracking, -, -, port, -⟩ := s.dispatchEntry_same e i
  refine ⟨?_, fun p j lock => ?_⟩
  · rw [tracking, List.map_append, List.nodup_append]
    refine ⟨h.indexes, List.nodup_singleton _, fun a ha b hb => ?_⟩
    obtain ⟨x, hx, rfl⟩ := List.mem_map.1 ha
    simp only [List.map_cons, List.map_nil, List.mem_singleton] at hb
    exact hb ▸ State.freeIndex_fresh free x hx
  · rw [port] at lock
    obtain ⟨x, hx, own⟩ := h.locks p j lock
    exact ⟨x, tracking ▸ List.mem_append_left _ hx, own⟩

theorem Port.lock_settle (q : Port) : q.settle.lock = q.lock := by
  unfold Port.settle
  split
  · split <;> rfl
  · split
    · rfl
    · unfold Port.enterStopped
      simp only
      split <;> rfl
  · rfl

theorem EntriesOwn.settle {s : State} (h : EntriesOwn s) (p : PortId) : EntriesOwn (s.updPort p Port.settle) :=
  h.of_locks rfl fun q => by
    rw [State.port_updPort]
    split
    next same => rw [← same, Port.lock_settle]
    · rfl

theorem EntriesOwn.reachQuiet {s : State} (h : EntriesOwn s) : EntriesOwn s.reachQuiet := by
  refine h.of_locks ?_ fun q => ?_
  · simp only [State.reachQuiet]
    split <;> rfl
  · simp only [State.reachQuiet]
    split
    · rw [State.enterStop, State.port_mapPorts]
      exact (PortMove.modeEntersStop _).lock
    · rfl

theorem EntriesOwn.testQuiet {s : State} (h : EntriesOwn s) : EntriesOwn s.testQuiet := by
  unfold State.testQuiet
  split
  · exact h.reachQuiet
  · exact h

/-- One port changes and keeps its lock. -/
theorem EntriesOwn.of_port {s t : State} (h : EntriesOwn s) {p : PortId} (tracking : t.tracking = s.tracking)
    (lock : (t.port p).lock = (s.port p).lock) (other : ∀ q, p ≠ q → t.port q = s.port q) : EntriesOwn t :=
  h.of_locks tracking fun q => by
    by_cases same : p = q
    · exact same ▸ lock
    · rw [other q same]

/-- A service takes a SWAP lock for an entry of the port alone (R51, R85). -/
theorem EntriesOwn.serve {s : State} (h : EntriesOwn s) (p : PortId) : EntriesOwn (s.serve p) := by
  by_cases chosen : s.arbiterChoice p = none
  · rwa [State.serve_none chosen]
  have served := State.serve_served chosen
  have other : ∀ q, p ≠ q → (s.serve p).port q = s.port q := fun q => served.port_other
  revert served other
  generalize s.serve p = t
  intro served other
  cases served with
  | hold => exact h.of_port (p := p) rfl (by rw [State.port_updPort_self]; rfl) other
  | upkeep => exact h.of_port (p := p) rfl (by rw [State.port_updPort_self]; rfl) other
  | boot chosen =>
    obtain ⟨rfl, -⟩ := State.arbiterChoice_boot chosen
    exact h.of_port (p := 0) rfl (by rw [State.port_issueBootRead, if_pos rfl]; rfl) other
  | copy =>
    refine h.of_port (p := p) rfl ?_ other
    rw [State.port_issueHalf, if_pos rfl]
    unfold Port.turnAfterCopy
    split <;> rfl
  | @upstream e k _ chosen =>
    obtain ⟨mem, ofPort⟩ := h.chosen chosen
    have indexes := s.updEntry_map e.index (fun x => { x with state := .issued k }) TrackEntry.index fun _ => rfl
    have keeps : ∀ x ∈ s.tracking, ∃ y ∈ (s.issueEntry p e k).tracking, y.index = x.index ∧ y.port = x.port := fun x hx =>
      ⟨_, List.mem_map_of_mem hx, by split <;> rfl, by split <;> rfl⟩
    refine ⟨(congrArg List.Nodup indexes).mpr h.indexes, fun q i lock => ?_⟩
    have own : (s.port q).lock = some i ∨ (p = q ∧ i = e.index) := by
      by_cases same : p = q
      · subst same
        rw [State.port_issueEntry, if_pos rfl] at lock
        rcases ((s.port p).issueIn k (.tracking e.index) e.command).lockFor_cases e with plain | locks
        · rw [plain] at lock
          exact .inl lock
        · rw [locks] at lock
          exact .inr ⟨rfl, (Option.some.inj lock).symm⟩
      · rw [other q same] at lock
        exact .inl lock
    rcases own with old | ⟨rfl, rfl⟩
    · obtain ⟨x, hx, index, port⟩ := h.locks q i old
      obtain ⟨y, hy, index', port'⟩ := keeps x hx
      exact ⟨y, hy, index'.trans index, port'.trans port⟩
    · obtain ⟨y, hy, index', port'⟩ := keeps e mem
      exact ⟨y, hy, index', port'.trans ofPort⟩

/-! ## After what follows (R42, R82, R88, R91, R137) -/

/-- The arbiters of some ports have nothing left to serve, and their settles have ended, after dispatch and the quiesce test. -/
structure Arbitrated (s : State) (done : List PortId) : Prop extends Dispatched s, EntriesOwn s where
  arbiters : ∀ p ∈ done, s.arbiterChoice p = none
  settles : ∀ p ∈ done, ∀ x, (s.port p).state = .settling x → (s.port p).anyIssued = true

theorem Arbitrated.serve {s : State} {done : List PortId} (h : Arbitrated s done) {q : PortId} (fresh : q ∉ done) :
    Arbitrated (s.serve q) done where
  toDispatched := h.toDispatched.serve q
  toEntriesOwn := h.toEntriesOwn.serve q
  arbiters p hp := (Calmer.serve (p := p) (q := q) h.toEntriesOwn fun same => fresh (same ▸ hp)).keeps (h.arbiters p hp)
  settles p hp x settling := by
    by_cases chosen : s.arbiterChoice q = none
    · rw [State.serve_none chosen] at settling ⊢
      exact h.settles p hp x settling
    · have same : (s.serve q).port p = s.port p := (State.serve_served chosen).port_other fun same => fresh (same ▸ hp)
      rw [same] at settling ⊢
      exact h.settles p hp x settling

theorem Arbitrated.settle {s : State} {done : List PortId} (h : Arbitrated s done) {q : PortId} (served : s.arbiterChoice q = none) :
    Arbitrated (s.updPort q Port.settle) (q :: done) where
  toDispatched := h.toDispatched.settle q
  toEntriesOwn := h.toEntriesOwn.settle q
  arbiters p hp := by
    refine State.arbiterChoice_settle ?_
    rcases List.mem_cons.1 hp with same | mem
    · exact same ▸ served
    · exact h.arbiters p mem
  settles p hp x settling := by
    rw [State.port_updPort] at settling ⊢
    split at settling
    next same =>
      rw [if_pos same]
      exact (s.port q).settle_settled.resolve_left fun settled => settled x settling
    next other =>
      rw [if_neg other]
      exact h.settles p (List.mem_of_ne_of_mem (Ne.symm other) hp) x settling

/-- An arbiter serves all that it has, settles, and gives the others nothing to do (R82, R88, R91). -/
theorem Arbitrated.arbitrate {s : State} {done : List PortId} (h : Arbitrated s done) {q : PortId} (fresh : q ∉ done) :
    Arbitrated (s.arbitrate q) (q :: done) := by
  have iterates : ∀ n {t : State}, Arbitrated t done → Arbitrated ((fun u => State.serve u q)^[n] t) done := by
    intro n
    induction n with
    | zero => exact fun h => h
    | succ n ih => exact fun h => ih (h.serve fresh)
  exact (iterates _ h).settle (State.serve_exhausts (Nat.lt_succ_self _))

/-- Nothing more follows after what follows in an event (R42, R82, R88, R91, R137). -/
theorem EntriesOwn.followUp_done {s : State} (own : EntriesOwn s) : NothingFollows s.followUp := by
  obtain ⟨dispatched, none⟩ := State.dispatchAll_keeps (P := EntriesOwn) (fun t e i h _ free => h.dispatchEntry e free) own
  have start : Arbitrated s.dispatchAll.testQuiet [] := ⟨.testQuiet none, dispatched.testQuiet, by simp, by simp⟩
  have first := start.arbitrate (q := 0) List.not_mem_nil
  have second := first.arbitrate (q := 1) (by decide)
  have third := second.arbitrate (q := 2) (by decide)
  have final : Arbitrated s.followUp [3, 2, 1, 0] := third.arbitrate (by decide)
  have all : ∀ p : PortId, p ∈ [3, 2, 1, 0] := by decide
  exact ⟨final.entries, final.quiet, fun p => final.arbiters p (all p), fun p => final.settles p (all p)⟩

/-! ## The commands of the arbiters (log 1) -/

/-- The end of a settle that is due is a command of its own (R88, R91). -/
theorem exec_settle {s : State} {p : PortId} (chosen : s.arbiterChoice p = none) (idle : (s.port p).anyIssued = false) :
    ((s.port p).state = .settling .held → exec (.portBecomesHeld p) s = .next (s.arbitrate p).followUp) ∧
      ((s.port p).state = .settling .stopped → exec (.portBecomesStopped p) s = .next (s.arbitrate p).followUp) := by
  rw [State.arbitrate_none chosen]
  constructor
  · intro settling
    have settles : s.updPort p Port.settle = s.updPort p Port.becomeHeld := State.updPort_congr (by simp [Port.settle, settling, idle])
    simp [exec, execPortBecomesHeld, settling, idle, settles]
  · intro settling
    have settles : s.updPort p Port.settle = s.updPort p Port.enterStopped :=
      State.updPort_congr (by simp [Port.settle, settling, idle])
    simp [exec, execPortBecomesStopped, settling, idle, settles]

/-- A service that is due is a command of its own (R54, R83, R104, R117, R183). -/
theorem exec_serve (s : State) (p : PortId) :
    (s.arbiterChoice p = some .upkeep → exec (.upkeepIssue p) s = .next (s.serve p).followUp) ∧
    (s.arbiterChoice p = some .hold → exec (.holdTaken p) s = .next (s.serve p).followUp) ∧
    (s.arbiterChoice p = some .boot → p = 0 → exec .bootReadIssue s = .next (s.serve p).followUp) ∧
    (∀ c, s.arbiterChoice p = some (.copy c) → exec (.copyHalfIssue p) s = .next (s.serve p).followUp) ∧
    (∀ e, s.arbiterChoice p = some (.upstream e) → exec (.issue p) s = .next (s.serve p).followUp) := by
  refine ⟨fun chosen => ?_, fun chosen => ?_, fun chosen port => ?_, fun c chosen => ?_, fun e chosen => ?_⟩
  · obtain ⟨k, ks, order⟩ := State.arbiterChoice_slot chosen nofun
    simp [exec, execUpkeepIssue, State.serve, chosen, order]
  · simp [exec, execHoldTaken, State.serve, chosen]
  · subst port
    obtain ⟨k, ks, order⟩ := State.arbiterChoice_slot chosen nofun
    simp [exec, execBootReadIssue, State.serve, chosen, order]
  · obtain ⟨k, ks, order⟩ := State.arbiterChoice_slot chosen nofun
    obtain ⟨b, ready⟩ := State.arbiterChoice_copy chosen
    obtain ⟨cur, current⟩ := State.copyReady_current ready
    simp [exec, execCopyHalfIssue, State.serve, chosen, order, current]
  · obtain ⟨k, ks, order⟩ := State.arbiterChoice_slot chosen nofun
    simp [exec, execIssue, State.serve, chosen, order]

/-- A command of an arbiter, of dispatch, of the quiesce test or of a settle is no step where nothing follows (log 1). -/
theorem NothingFollows.exec_same {s : State} (h : NothingFollows s) (p : PortId) :
    ∀ c ∈ [.issue p, .upkeepIssue p, .copyHalfIssue p, .bootReadIssue, .holdTaken p, .portBecomesHeld p, .portBecomesStopped p,
      .dispatch, .quietReached], exec c s = .next s := by
  have chosen := h.arbiters p
  have undispatched := State.oldestDispatchable_none.2 h.dispatch
  have quiet := ModeController.quietDue_false h.quiet
  have settled : ∀ x, ¬ ((s.port p).state = .settling x ∧ (s.port p).anyIssued = false) := fun x due => by
    simp [h.settles p x due.1] at due
  simp only [List.forall_mem_cons]
  refine ⟨?_, ?_, ?_, ?_, ?_, ?_, ?_, ?_, ?_, nofun⟩
  · simp [exec, execIssue, chosen]
  · simp [exec, execUpkeepIssue, chosen]
  · simp [exec, execCopyHalfIssue, chosen]
  · simp [exec, execBootReadIssue, h.arbiters 0]
  · simp [exec, execHoldTaken, chosen]
  · simp only [exec, execPortBecomesHeld, if_neg (settled .held)]
  · simp only [exec, execPortBecomesStopped, if_neg (settled .stopped)]
  · simp [exec, execDispatch, undispatched]
  · simp [exec, execQuietReached, quiet]

/-- Settles O6: each stage of what follows ends with nothing left for it to do, and no later stage gives an earlier one anything. -/
theorem followUpOfAnEvent : Obligations.FollowUpOfAnEvent := by
  intro s
  refine ⟨.followUp s, State.followUp_same, fun indexes locks => EntriesOwn.followUp_done ⟨indexes, locks⟩, fun p => ?_⟩
  obtain ⟨upkeep, hold, boot, copy, entry⟩ := exec_serve s p
  exact ⟨State.arbitrate_step, fun chosen => ⟨State.arbitrate_same chosen, exec_settle chosen⟩, upkeep, hold, boot, copy, entry,
    fun nothing => nothing.exec_same p⟩

end Sys2Proof.Machine
end

section
/-! PROOFS. Nothing is left due after an event: an event ends with what follows from it, or leaves alone all that anything follows
from. -/

namespace Sys2Proof.Machine

/-! ## What anything follows from (R41, R42, R82 to R86, R137) -/

/-- The state without the fields from which nothing follows: queues of answers and commands, tags, notices, settings, timers of the
supervision and of a drain. -/
def State.watched (s : State) : State :=
  { s with
    pending := [], deferred := none, tags := [], nu := .initial, mgmtQueue := [], managers := 0, li := .initial, cause := .powerOn
    mc := { s.mc with stopOnQuiet := false, period := 0, timer := .off, wakeOnRequest := false } }

theorem NothingFollows.watched_iff (s : State) : NothingFollows s.watched ↔ NothingFollows s :=
  ⟨fun h => ⟨h.dispatch, h.quiet, h.arbiters, h.settles⟩, fun h => ⟨h.dispatch, h.quiet, h.arbiters, h.settles⟩⟩

/-- Nothing follows where what is watched is as it was. -/
theorem NothingFollows.of_watched {s t : State} (h : NothingFollows s) (same : t.watched = s.watched) : NothingFollows t :=
  (NothingFollows.watched_iff t).1 (same ▸ (NothingFollows.watched_iff s).2 h)

/-- A port changes so that its arbiter, dispatch and its settle get nothing new to do (R41, R82, R88, R91). -/
structure QuieterPort (q r : Port) : Prop where
  active : r.state = .active → q.state = .active
  settling : ∀ x, r.state = .settling x → r.anyIssued = true ∨ q.state = .settling x
  bars : q.state.barsDispatch = true → r.state.barsDispatch = true
  lock : r.lock = q.lock
  order : r.freeOrder = q.freeOrder
  request : r.holdRequest = q.holdRequest
  offers : q.upkeep.offers = false → r.upkeep.offers = false
  issued : r.anyIssued = q.anyIssued
  pace : r.pace = q.pace

theorem QuieterPort.refl (q : Port) : QuieterPort q q :=
  ⟨id, fun _ => .inr, id, rfl, rfl, rfl, id, rfl, rfl⟩

/-- Nothing follows where the ports alone have changed, and for the quieter. -/
theorem NothingFollows.of_ports {s t : State} (h : NothingFollows s) (ports : ∀ p, QuieterPort (s.port p) (t.port p))
    (same : { t with ports := s.ports }.watched = s.watched) : NothingFollows t := by
  have base : NothingFollows { t with ports := s.ports } := h.of_watched same
  refine ⟨fun e he => ?_, base.quiet, fun p => Calmer.keeps ?_ (base.arbiters p), fun p x settling => ?_⟩
  · exact State.dispatchable_of (s := { t with ports := s.ports }) rfl rfl (fun p => (ports p).bars) (base.dispatch e he)
  · exact ⟨id, (ports p).active, (ports p).lock, fun none => (ports p).order.trans none, fun none => (ports p).request.trans none,
      (ports p).offers, fun busy => (ports p).issued.trans busy, fun _ => id, fun _ _ => rfl, rfl,
      fun c none => (State.offersTo_congr (s := { t with ports := s.ports }) (t := t) rfl rfl (fun q => (ports q).pace) p).trans none⟩
  · rcases (ports p).settling x settling with busy | before
    · exact busy
    · exact (ports p).issued.trans (base.settles p x before)

theorem NothingFollows.updPort {s : State} (h : NothingFollows s) (p : PortId) (f : Port → Port)
    (quieter : QuieterPort (s.port p) (f (s.port p))) : NothingFollows (s.updPort p f) := by
  refine h.of_ports (fun q => ?_) rfl
  rw [State.port_updPort]
  split
  next same => exact same ▸ quieter
  · exact .refl _

theorem NothingFollows.mapPorts {s : State} (h : NothingFollows s) (f : Port → Port) (quieter : ∀ q, QuieterPort q (f q)) :
    NothingFollows (s.mapPorts f) :=
  h.of_ports (fun q => by rw [State.port_mapPorts]; exact quieter _) rfl

/-- Nothing follows where the Copy Engine alone has changed and offers no half that it did not (R116). -/
theorem NothingFollows.of_channels {s t : State} (h : NothingFollows s) (offers : ∀ c p, s.offersTo c p = false → t.offersTo c p = false)
    (same : { t with channels := s.channels, engineEnable := s.engineEnable }.watched = s.watched) : NothingFollows t := by
  have base : NothingFollows { t with channels := s.channels, engineEnable := s.engineEnable } := h.of_watched same
  have ports : t.ports = s.ports := by simpa [State.watched] using congrArg State.ports same
  have port : ∀ p, t.port p = s.port p := fun p => by rw [State.port, ports, State.port]
  have before : ∀ c p, State.offersTo { t with channels := s.channels, engineEnable := s.engineEnable } c p = s.offersTo c p :=
    fun c p => State.offersTo_congr (s := s) (t := { t with channels := s.channels, engineEnable := s.engineEnable }) rfl rfl
      (fun q => congrArg Port.pace (port q)) p
  refine ⟨base.dispatch, base.quiet, fun p => Calmer.keeps ?_ (base.arbiters p), base.settles⟩
  exact .of_port id rfl (fun _ => id) (fun _ _ => rfl) rfl fun c none => offers c p (before c p ▸ none)

/-- Nothing follows where the mode alone has changed, to none in which the quiesce conditions are tested or the boot reads (R86, R137). -/
theorem NothingFollows.of_mode {s t : State} (h : NothingFollows s) (quiescing : t.mc.mode ≠ .quiescing) (booting : t.mc.mode ≠ .booting)
    (same : { t with mc := { t.mc with mode := s.mc.mode } }.watched = s.watched) : NothingFollows t := by
  have base : NothingFollows { t with mc := { t.mc with mode := s.mc.mode } } := h.of_watched same
  refine ⟨base.dispatch, fun mode => absurd mode quiescing, fun p => Calmer.keeps ?_ (base.arbiters p), base.settles⟩
  exact .of_same id rfl (fun _ _ => by simp [State.bootOffers, booting]) rfl (fun _ => rfl) rfl fun _ => rfl

/-- Nothing follows where the windows alone have changed, and dispatch gets nothing new to do (R41). -/
theorem NothingFollows.of_windows {s t : State} (h : NothingFollows s) (dispatch : ∀ e ∈ t.requestQueue, t.dispatchable e = false)
    (same : { t with windows := s.windows }.watched = s.watched) : NothingFollows t := by
  have base : NothingFollows { t with windows := s.windows } := h.of_watched same
  exact ⟨dispatch, base.quiet, fun p => Calmer.keeps
    (.of_same id rfl (fun _ => id) rfl (fun _ => rfl) rfl fun _ => rfl) (base.arbiters p), base.settles⟩

/-! ## How an event ends -/

/-- An event ends with what follows from it, or nothing follows (R42, R82, R88, R91, R137). -/
inductive Ends (s : State) : State → Prop
  | follows {u : State} (h : Event s u) : Ends s u.followUp
  | kept {t : State} (h : NothingFollows t) : Ends s t

/-- Nothing follows after an event that ends so. -/
theorem Ends.nothing {s t : State} (boot : BootLaw s) (law : UseCountLaw s) (h : Ends s t) : NothingFollows t := by
  cases h with
  | follows event =>
    obtain ⟨-, after⟩ := boot_useCounts_kept.event event ⟨boot, law⟩
    exact EntriesOwn.followUp_done ⟨after.indexes, after.locks⟩
  | kept h => exact h

/-- A command ends with a next state, in one of these ways. -/
def Closes (s : State) (o : Host.Outcome State Fault Refusal) : Prop := ∃ t, o = .next t ∧ Ends s t

theorem Closes.next {s t : State} (h : Ends s t) : Closes s (.next t) := ⟨t, rfl, h⟩

theorem Closes.follows {s u : State} (h : Event s u) : Closes s (.next u.followUp) := .next (.follows h)

theorem Closes.kept {s t : State} (h : NothingFollows t) : Closes s (.next t) := .next (.kept h)

/-! ## Management commands (R160) -/

/-- How an owning block leaves what anything follows from: so that nothing follows, or with an answer after which what follows comes about,
or that is deferred (R160, R161). -/
inductive Leaves : State × Answer → Prop
  | kept {t : State} {a : Answer} (h : NothingFollows t) : Leaves (t, a)
  | done {t : State} : Leaves (t, .done)
  | deferred {t : State} : Leaves (t, .deferred)

/-- An owning block that answers OK with data or refuses leaves nothing to follow (R160). -/
def Act.Calm (act : Act) : Prop := ∀ f s, UseCountLaw s → NothingFollows s → Leaves (act f s)

theorem State.watched_countMalformed (s : State) (m : Bool) : (s.countMalformed m).watched = s.watched := by cases m <;> rfl

theorem State.watched_raiseRestored (s : State) (b : Bool) : (s.raiseRestored b).watched = s.watched := by cases b <;> rfl

theorem State.watched_received (s : State) (b : Bool) : (s.validFrame.raiseRestored b).watched = s.watched :=
  s.validFrame.watched_raiseRestored b

/-- A window that starts to drain takes its entries from dispatch (R18, R41). -/
theorem NothingFollows.startDrain {s : State} (h : NothingFollows s) (f : MgmtFrame) {i : WindowIdx} (change : PendingChange)
    (limit : BitVec 8) : NothingFollows (s.startDrain f i change limit) := by
  refine h.of_windows (fun e he => ?_) rfl
  have window : (s.startDrain f i change limit).window e.window = (s.setWindow i ((s.window i).drain change limit)).window e.window := rfl
  by_cases same : i = e.window
  · have drains : ((s.startDrain f i change limit).window e.window).state = .draining := by
      rw [window, State.window_setWindow, if_pos same]
      rfl
    simp [State.dispatchable, drains]
  · refine State.dispatchable_of (s := s) ?_ rfl (fun _ => id) (h.dispatch e he)
    rw [window, State.window_setWindow, if_neg same]

/-- A REQUEST of a pool is discarded, or charged and delivered, and nothing that is watched changes before its delivery (R174, R175). -/
theorem State.receiveRequest_watched (s : State) (pool : Pool) (m : Bool) (deliver : State → State) :
    (s.receiveRequest pool m deliver).watched = s.watched ∨
      ∃ u, Atoms s u ∧ u.watched = s.watched ∧ 0 < u.li.credit pool ∧ s.receiveRequest pool m deliver = deliver (u.charged pool) := by
  unfold State.receiveRequest
  split
  · exact .inl rfl
  · simp only
    split
    · exact .inl (s.watched_received _)
    next credit =>
      refine .inr ⟨(s.validFrame.raiseRestored s.li.up).countMalformed m, (Atoms.received s _).trans (.countMalformed _ _),
        (State.watched_countMalformed _ m).trans (s.watched_received _), ?_, ?_⟩
      · have same : ((s.validFrame.raiseRestored s.li.up).countMalformed m).li.credit pool =
            (s.validFrame.raiseRestored s.li.up).li.credit pool := by cases m <;> cases pool <;> rfl
        omega
      · rw [State.charge_eq]

section
variable {s : State} (boot : BootLaw s) (law : UseCountLaw s) (nothing : NothingFollows s)
include boot law nothing

/-- Every management command of section 9.5 (R159, R160, R161). -/
theorem Ends.manage (c : Command) (n : Nat) (f : MgmtFrame) {act : Act} (sound : act.Sound) (calm : act.Calm) :
    Ends s (s.manage c n f act) := by
  rcases s.receiveRequest_watched .management f.malformed (fun t => t.intake c n f act) with h | ⟨u, before, same, credit, h⟩
  · exact .kept (nothing.of_watched h)
  rw [State.manage, h, State.intake]
  split
  · exact .kept (nothing.of_watched same)
  next passes =>
    have fresh := State.intakeRefusal_none passes
    have taken := sound f ((u.charged .management).placeCommand f c) (by simp [State.placeCommand, State.enterTag])
    obtain ⟨boot, law⟩ := boot_useCounts_kept.placed c credit fresh trivial (boot_useCounts_kept.atoms before ⟨boot, law⟩)
    have leaves := calm f _ law (nothing.of_watched same)
    unfold State.takeCommand
    simp only
    revert taken leaves
    generalize act f ((u.charged .management).placeCommand f c) = r
    intro taken leaves
    cases taken with
    | @now t a acts answers =>
      have answered : Event s (t.answerMgmt (okResponse f.requester f.tag .management [])) :=
        Event.command before credit fresh (Taken.now (a := .ok []) acts nofun)
      cases leaves with
      | kept rests =>
        cases a with
        | ok data => exact .kept (rests.of_watched rfl)
        | done => exact .follows answered
        | refused reason => exact .kept (rests.of_watched rfl)
        | deferred => exact absurd rfl answers
      | done => exact .follows answered
      | deferred => exact absurd rfl answers
    | @drains i change limit => 
      have placed : NothingFollows ((u.charged .management).placeCommand f c) := nothing.of_watched same
      exact .kept (placed.startDrain f change limit)
    | resets owned busy =>
      have after := boot_useCounts_kept.resets (f := f) owned busy trivial ⟨boot, law⟩
      exact .kept (EntriesOwn.followUp_done ⟨after.2.indexes, after.2.locks⟩)

end

/-! ## Owning blocks that leave nothing to follow (R160) -/

theorem Leaves.read {s : State} (h : NothingFollows s) (data : List Word) : Leaves (unchanged (.ok data) s) := .kept h

theorem Leaves.refused {s : State} (h : NothingFollows s) (r : Reason) : Leaves (unchanged (.refused r) s) := .kept h

theorem Leaves.onPort {f : MgmtFrame} {s : State} {act : PortId → State × Answer} (h : NothingFollows s) (leaves : ∀ p, Leaves (act p)) :
    Leaves (onPort f s act) := by
  unfold Machine.onPort
  split
  · exact .refused h _
  · split
    · exact leaves _
    · exact .refused h _

theorem Leaves.onChannel {f : MgmtFrame} {s : State} {act : ChannelId → State × Answer} (h : NothingFollows s)
    (leaves : ∀ c, Leaves (act c)) : Leaves (onChannel f s act) := by
  unfold Machine.onChannel
  split
  · exact .refused h _
  · split
    · exact leaves _
    · exact .refused h _

/-- A window that is loaded has no entry bound to it (R15, R41). -/
theorem windowLoadAct_calm : windowLoadAct.Calm := fun f s law h => by
  unfold windowLoadAct
  split
  · exact .refused h _
  next i _ =>
    unfold State.loadWindow
    split
    · exact .refused h _
    next free =>
      split
      · exact .refused h _
      next c _ =>
        split
        · exact .refused h _
        · refine .kept (h.of_windows (fun e he => ?_) rfl)
          have apart : i ≠ e.window := fun same => law.bound e he (same ▸ by simpa [Window.inUse] using free)
          exact State.dispatchable_of (s := s) (by rw [State.window_setWindow, if_neg apart]) rfl (fun _ => id) (h.dispatch e he)

theorem windowReplaceAct_calm : windowReplaceAct.Calm := fun f s _ h => by
  unfold windowReplaceAct
  split
  · exact .refused h _
  · unfold State.replaceWindow
    split
    · exact .refused h _
    split
    · exact .refused h _
    split
    · exact .refused h _
    split
    · exact .refused h _
    split
    · exact .done
    · exact .deferred

theorem windowCloseAct_calm : windowCloseAct.Calm := fun f s _ h => by
  unfold windowCloseAct
  split
  · exact .refused h _
  · unfold State.closeWindow
    split
    · exact .refused h _
    split
    · exact .refused h _
    split
    · exact .refused h _
    split
    · exact .done
    · exact .deferred

theorem windowReadAct_calm : windowReadAct.Calm := fun f s _ h => by
  unfold windowReadAct
  split
  · exact .refused h _
  · split
    · exact .read h _
    · exact .refused h _

theorem portConfigureAct_calm : portConfigureAct.Calm := fun f s _ h => .onPort h fun p => by
  split
  · exact .refused h _
  · exact .kept (h.updPort p _ ⟨id, fun _ => .inr, id, rfl, rfl, rfl, id, rfl, rfl⟩)

theorem portEnableAct_calm : portEnableAct.Calm := fun f s _ h => .onPort h fun p => by
  split
  · exact .done
  · exact .refused h _

theorem Upkeep.clearMissed_offers {u : Upkeep} (h : u.offers = false) : u.clearMissed.offers = false := by
  unfold Upkeep.clearMissed
  split
  next pending =>
    simp only [Upkeep.offers] at h ⊢
    split <;> simp_all
  · exact h

theorem portDisableAct_calm : portDisableAct.Calm := fun f s _ h => .onPort h fun p => by
  split
  · exact .refused h _
  next allowed =>
    split
    · exact .refused h _
    · refine .kept (h.updPort p _ ⟨nofun, nofun, fun bars => absurd bars ?_, rfl, rfl, rfl, fun none => ?_, rfl, rfl⟩)
      · cases state : (s.port p).state <;> simp_all [PortState.barsDispatch, PortState.barsDisable]
      · exact Upkeep.clearMissed_offers none

theorem portResetAct_calm : portResetAct.Calm := fun f s _ h => .onPort h fun p => by
  split
  · exact .deferred
  · exact .deferred
  · exact .deferred
  · exact .refused h _
  · exact .refused h _
  · exact .refused h _

theorem channelLoadAct_calm : channelLoadAct.Calm := fun f s _ h => by
  unfold channelLoadAct
  split
  · exact .refused h _
  split
  · exact .refused h _
  split
  · exact .refused h _
  split
  · exact .refused h _
  split
  · exact .refused h _
  · exact .done

/-- A channel that is not RUNNING offers no half (R116). -/
theorem State.offersTo_stopped {s : State} {c : ChannelId} (stopped : (s.channel c).state ≠ .running) (p : PortId) :
    s.offersTo c p = false := by
  have none : s.offer c = none := by
    simp only [State.offer]
    split <;> simp_all
  simp [State.offersTo, none]

/-- A channel that stops offers no half (R116). -/
theorem NothingFollows.setChannel {s : State} (h : NothingFollows s) {c : ChannelId} {ch : Channel} (stopped : ch.state ≠ .running) :
    NothingFollows (s.setChannel c ch) := by
  refine h.of_channels (fun d p quiet => ?_) rfl
  by_cases same : c = d
  · exact State.offersTo_stopped (by rw [State.channel_setChannel, if_pos same]; exact stopped) p
  · rw [← quiet]
    exact State.offersTo_setChannel_other ch same p

theorem channelAbortAct_calm : channelAbortAct.Calm := fun f s _ h => .onChannel h fun c => by
  split
  · exact .refused h _
  · exact .refused h _
  · split
    · exact .kept (h.setChannel (by simp))
    · exact .done

theorem channelResumeAct_calm : channelResumeAct.Calm := fun f s _ h => .onChannel h fun c => by
  split
  · exact .done
  · exact .refused h _

theorem channelClearAct_calm : channelClearAct.Calm := fun f s _ h => .onChannel h fun c => by
  split
  · exact .kept (h.setChannel (by simp [Channel.initial]))
  · exact .refused h _

theorem engineStartAct_calm : engineStartAct.Calm := fun f s _ h => by
  unfold engineStartAct
  split
  · exact .refused h _
  split
  · exact .read h _
  · exact .done

/-- A quench offers no half that was not offered (R116, R130). -/
theorem NothingFollows.quench {s : State} (h : NothingFollows s) : NothingFollows s.quench := by
  refine h.of_channels (fun c p quiet => ?_) rfl
  have channel : s.quench.channel c = (s.channel c).quench := by simp [State.quench, State.channel, State.mapChannels]
  rcases unit : (s.channel c).unit with _ | u
  · refine State.offersTo_stopped (fun running => ?_) p
    rw [channel, Channel.quench] at running
    split at running
    · cases running
    next stays => exact stays ⟨running, unit⟩
  · have kept : s.quench.channel c = s.channel c := by rw [channel, Channel.quench, if_neg (by simp [unit])]
    have same : s.quench.offer c = s.offer c := by
      simp only [State.offer, kept, unit]
      cases (s.channel c).state <;> cases (s.channel c).current <;> rfl
    simpa only [State.offersTo, same] using quiet

theorem engineQuenchAct_calm : engineQuenchAct.Calm := fun _ _ _ h => .kept h.quench

theorem quiesceAct_calm : quiesceAct.Calm := fun f s _ h => by
  unfold quiesceAct
  split
  · exact .done
  · exact .read h _
  · exact .read h _
  · exact .refused h _
  · exact .refused h _

theorem resumeAct_calm : resumeAct.Calm := fun f s _ h => by
  unfold resumeAct
  split
  · exact .read h _
  · exact .kept (h.of_mode nofun nofun rfl)
  · exact .kept (h.of_mode nofun nofun rfl)
  · exact .done
  · exact .read h _

theorem QuieterPort.enterStopped {q : Port} (active : q.state = .active) : QuieterPort q q.enterStopped := by
  unfold Port.enterStopped
  simp only
  split <;> exact ⟨nofun, nofun, fun bars => by simp [active, PortState.barsDispatch] at bars, rfl, rfl, rfl,
    fun none => Upkeep.clearMissed_offers none, rfl, rfl⟩

theorem QuieterPort.modeEntersStop (q : Port) : QuieterPort q q.modeEntersStop := by
  unfold Port.modeEntersStop
  split
  next active =>
    split
    next busy =>
      exact ⟨nofun, fun _ _ => .inl busy, fun bars => by simp [active, PortState.barsDispatch] at bars, rfl, rfl, rfl, id, rfl, rfl⟩
    · exact .enterStopped active
  · exact .refl q

theorem NothingFollows.enterStop {s : State} (h : NothingFollows s) (cause : ModeCause) : NothingFollows (s.enterStop cause) := by
  have mode : NothingFollows (s.changeMode .stop cause) := h.of_mode nofun nofun rfl
  exact mode.mapPorts _ .modeEntersStop

theorem stopAct_calm : stopAct.Calm := fun f s _ h => by
  unfold stopAct
  split
  · exact .refused h _
  · exact .refused h _
  · exact .kept (h.enterStop _)
  · exact .read h _
  · exact .refused h _

theorem supervisionSetAct_calm : supervisionSetAct.Calm := fun f s _ h => by
  unfold supervisionSetAct
  split
  · exact .refused h _
  · exact .kept (h.of_watched rfl)

theorem noticeMaskAct_calm : noticeMaskAct.Calm := fun f s _ h => by
  unfold noticeMaskAct
  split
  · exact .kept (h.of_watched rfl)
  · exact .refused h _

theorem managersSetAct_calm : managersSetAct.Calm := fun f s _ h => by
  unfold managersSetAct
  split
  · exact .kept (h.of_watched rfl)
  · exact .refused h _

theorem countersReadAct_calm : countersReadAct.Calm := fun f s _ h => by
  unfold countersReadAct
  split
  · exact .refused h _
  split
  · exact .refused h _
  split
  next b _ _ _ =>
    refine .kept ?_
    cases b with
    | port p => exact h.updPort p _ ⟨id, fun _ => .inr, id, rfl, rfl, rfl, id, rfl, rfl⟩
    | link => exact h.of_watched rfl
  · exact .read h _

theorem trackReadAct_calm : trackReadAct.Calm := fun f s _ h => by
  unfold trackReadAct
  split
  · exact .refused h _
  split
  · exact .read h _
  · exact .refused h _

/-! ## The other commands -/

theorem Atoms.setPace (s : State) (p : PortId) (level : Bool) : Atoms s (s.setPace p level) := by
  have line := Atoms.updPort s p (fun q => { q with pace := level }) (.of_state rfl rfl rfl rfl rfl)
  unfold State.setPace
  simp only
  split
  · exact line.trans (.setChannels _ _)
  · exact line

/-- A port at reset is as after power-on but for its input lines (R81, R182; log 5). -/
theorem State.port_atReset_eq (s : State) (cause : CauseRecord) (level : Bool) (p : PortId) :
    (s.atReset cause level).port p =
      { State.reset.port p with holdRequest := (s.port p).holdRequest, pace := (s.port p).pace } := by
  simp [State.port, State.atReset]

/-- P0 is ACTIVE at reset, and every other port DISABLED (R81). -/
theorem State.reset_state (p : PortId) : (State.reset.port p).state = if p = 0 then .active else .disabled := by
  fin_cases p <;> rfl

section
variable {s : State} (nothing : NothingFollows s)
include nothing

/-- RESETN holds every arbiter (R182). -/
theorem Closes.pinReset : Closes s (execPinReset s) := by
  refine .kept ?_
  unfold State.unlessReset
  split
  · exact nothing
  · refine ⟨nofun, nofun, fun p => State.arbiterChoice_none.2 (.reset rfl), fun p x settling => ?_⟩
    rw [State.port_atReset_eq] at settling
    have state : (State.reset.port p).state = .settling x := settling
    rw [State.reset_state] at state
    split at state <;> cases state

theorem Closes.resetnDeasserted : Closes s (execResetnDeasserted s) := by
  unfold execResetnDeasserted
  split
  · exact .follows (.atoms (Atoms.setResetn s false))
  · exact .kept nothing

theorem Closes.fill : Closes s (execFill s) := by
  refine .kept (nothing.of_watched ?_)
  unfold State.unlessReset
  split
  · rfl
  · exact State.watched_raiseRestored _ _

theorem Closes.frameCheckFailed : Closes s (execFrameCheckFailed s) := by
  refine .kept (nothing.of_watched ?_)
  unfold State.unlessReset
  split <;> rfl

theorem Closes.idle (malformed : Bool) : Closes s (execIdle malformed s) := by
  refine .kept (nothing.of_watched ?_)
  unfold State.unlessReset
  split
  · rfl
  · exact (State.watched_countMalformed _ _).trans (s.watched_received _)

theorem Closes.linkReset (malformed : Bool) : Closes s (execLinkReset malformed s) := by
  unfold execLinkReset State.unlessReset
  split
  · exact .kept nothing
  simp only
  split
  · exact .kept (nothing.of_watched ((State.watched_countMalformed _ _).trans (s.watched_received _)))
  split
  · exact .kept (nothing.of_watched (State.watched_raiseRestored _ _))
  next mode => exact .follows (.resetLink (.validFrame s) mode (Atoms.takeLinkReset (s := s.validFrame) mode _))

/-- A data request is refused, or bound with what follows (R31, R36, R37). -/
theorem Closes.dataRequest (f : DataFrame) : Closes s (execDataRequest f s) := by
  refine .next ?_
  rcases s.receiveRequest_watched .data f.malformed (fun t => t.admitRequest f) with h | ⟨u, before, same, credit, h⟩
  · exact .kept (nothing.of_watched h)
  rw [h]
  have refused : ∀ r, NothingFollows ((u.charged .data).refuseData f r) := fun r => nothing.of_watched same
  unfold State.admitRequest
  split
  · unfold State.admitInRun
    split
    next refusal =>
      unfold State.bindOrRefuse
      rw [refusal]
      exact .kept (refused _)
    · exact .follows (.atoms (before.trans (.bindOrRefuse f credit)))
  next stop =>
    split
    · have mode : u.mc.mode ≠ .booting := fun h => by
        have : u.mc.mode = .stop := stop
        simp [this] at h
      exact .follows (.atoms (before.trans ((Atoms.leaveStop .wake mode).trans (.bindOrRefuse (s := u.leaveStop .wake) f credit))))
    · exact .kept (refused _)
  all_goals exact .kept (refused _)

theorem Closes.unknownCommand (code : Byte) (f : MgmtFrame) : Closes s (execUnknownCommand code f s) := by
  refine .next ?_
  rcases s.receiveRequest_watched .management f.malformed (fun t => t.refuseMgmt f (t.unknownRefusal f)) with h | ⟨u, -, same, -, h⟩
  · exact .kept (nothing.of_watched h)
  · exact h ▸ .kept (nothing.of_watched same)

/-- A completion for a held slot or a LINGERING one ends with what follows; any other is counted (R64, R76, R77). -/
theorem Closes.completion (p : PortId) (k : SlotId) (st : CompletionStatus) (data : List Word) :
    Closes s (execCompletion p k st data s) := by
  unfold execCompletion State.unlessReset
  split
  · exact .kept nothing
  simp only [State.complete]
  split
  · exact .kept (nothing.updPort p _ ⟨id, fun _ => .inr, id, rfl, rfl, rfl, id, rfl, rfl⟩)
  split
  next issued => exact .follows (.atoms (.deliver (by rw [issued]; rfl) _ st data))
  next lingers =>
    have occupied : (s.port p).slot k ≠ .free := by simp [lingers]
    refine .follows (.atoms (.trans (.updPort s p _ ?_) (.raise _ _)))
    exact (PortMove.freeSlot occupied).trans (.of_state rfl rfl rfl rfl rfl)
  next =>
    have counted := nothing.updPort p Port.countStray ⟨id, fun _ => .inr, id, rfl, rfl, rfl, id, rfl, rfl⟩
    exact .kept (counted.of_watched rfl)

theorem Closes.issueTimerExpiry (p : PortId) (k : SlotId) : Closes s (execIssueTimerExpiry p k s) := by
  unfold execIssueTimerExpiry
  split
  next expired =>
    have issued : ((s.port p).slot k).isIssued = true := by rw [expired]; rfl
    exact .follows (.atoms (((Atoms.linger issued).trans (.timeoutHolder _ _ _)).trans (.stallTest _ _)))
  next => exact .kept nothing

theorem Closes.holdRequestAsserted (p : PortId) : Closes s (execHoldRequestAsserted p s) := by
  unfold execHoldRequestAsserted
  split
  · exact .kept nothing
  · exact .follows (.atoms (Atoms.updPort s p _ (.holdAsserted _)))

theorem Closes.holdRequestDeasserted (p : PortId) : Closes s (execHoldRequestDeasserted p s) := by
  unfold execHoldRequestDeasserted
  split
  · exact .follows (.atoms (Atoms.updPort s p _ (.holdDeasserted _ _)))
  · exact .kept nothing

theorem Closes.holdLimitExpiry (p : PortId) : Closes s (execHoldLimitExpiry p s) := by
  unfold execHoldLimitExpiry
  split
  · have stopped := nothing.updPort p (fun q => { q with holdTimer := none }) ⟨id, fun _ => .inr, id, rfl, rfl, rfl, id, rfl, rfl⟩
    exact .kept (stopped.of_watched rfl)
  · exact .kept nothing

theorem Closes.resetPulseExpiry (p : PortId) : Closes s (execResetPulseExpiry p s) := by
  unfold execResetPulseExpiry
  split
  next resetting pulse => exact .follows (.atoms (Atom.pulseEnds (u := ⟨0, _⟩) _ resetting pulse).one)
  next => exact .kept nothing

theorem Closes.upkeepExpiry (p : PortId) : Closes s (execUpkeepExpiry p s) := by
  unfold execUpkeepExpiry
  split
  · exact .follows (.atoms (Atoms.updPort s p _ ((PortMove.upkeepExpiry _).trans (.of_state rfl rfl rfl rfl rfl))))
  · exact .kept nothing

theorem Closes.drainTimerExpiry : Closes s (execDrainTimerExpiry s) := by
  unfold execDrainTimerExpiry
  split
  next deferred =>
    split
    next expired => exact .follows (.atoms (Atom.revert deferred expired.2).one)
    · exact .kept nothing
  next => exact .kept nothing

theorem Closes.supervisionTimerExpiry : Closes s (execSupervisionTimerExpiry s) := by
  unfold execSupervisionTimerExpiry
  split
  next =>
    have raised : NothingFollows (s.raise .supervisionExpired) := nothing.of_watched rfl
    have atoms := Atoms.raise s .supervisionExpired
    revert raised atoms
    generalize s.raise .supervisionExpired = u
    intro raised atoms
    unfold State.superviseByMode
    split
    next run => exact .follows (.atoms (atoms.trans ((Atoms.enterQuiescing _ (by simp [run])).trans (.restartSupervision _))))
    next =>
      refine .kept (raised.of_watched ?_)
      split <;> rfl
    next quiet => exact .kept ((raised.enterStop .supervision).of_watched rfl)
    next => exact .kept (raised.of_watched rfl)
    next => exact .kept (raised.of_watched rfl)
  next => exact .kept nothing

theorem Closes.silenceTimerExpiry : Closes s (execSilenceTimerExpiry s) := by
  refine .kept (nothing.of_watched ?_)
  split <;> rfl

/-- What the transmitter takes and sends is not watched (R178). -/
theorem Closes.transmitter : ∀ c ∈ [.takeCredit, .takeNotice, .takeResponse, .responseSent, .creditSent, .noticeSent],
    Closes s (exec c s) := by
  have sent : ∀ r, NothingFollows (State.responseSent { s with li := s.li.sent } r) := fun r => by
    refine nothing.of_watched ?_
    unfold State.responseSent
    simp only
    split
    · rfl
    · split <;> rfl
  simp only [List.forall_mem_cons]
  refine ⟨.kept (nothing.of_watched ?_), .kept (nothing.of_watched ?_), .kept (nothing.of_watched ?_), .kept ?_,
    .kept (nothing.of_watched ?_), .kept (nothing.of_watched ?_), nofun⟩
  · split <;> rfl
  · split <;> rfl
  · split <;> rfl
  · split
    next r effective b _ =>
      cases effective
      · exact nothing.of_watched rfl
      · exact sent r
    · exact nothing
  · split <;> rfl
  · split <;> rfl

end

/-- An install that is not due is no step (R23, R24). -/
theorem NothingDue.install_closes {s : State} (nothing : NothingDue s) :
    Closes s (execInstallReplacement s) ∧ Closes s (execInstallClose s) := by
  refine ⟨.kept ?_, .kept ?_⟩ <;> simp only [nothing.install] <;> exact nothing.toNothingFollows

section
variable {s : State} (boot : BootLaw s) (law : UseCountLaw s) (nothing : NothingDue s)
include boot law nothing

/-- Every command ends with what follows from it, or leaves nothing to follow. -/
theorem closes_exec (c : Instr) : Closes s (exec c s) := by
  have rests := nothing.toNothingFollows
  have manage : ∀ (c : Command) (n : Nat) (f : MgmtFrame) {act : Act}, act.Sound → act.Calm →
      Closes s (.next (s.manage c n f act)) := fun c n f _ sound calm => .next (.manage boot law rests c n f sound calm)
  have arbiters : ∀ p, ∀ c ∈ [.issue p, .upkeepIssue p, .copyHalfIssue p, .bootReadIssue, .holdTaken p, .portBecomesHeld p,
      .portBecomesStopped p, .dispatch, .quietReached], Closes s (exec c s) := fun p c mem => by
    rw [rests.exec_same p c mem]
    exact .kept rests
  have transmitter := Closes.transmitter rests
  cases c with
  | powerOn => exact .follows (.reset .refl)
  | pinReset => exact .pinReset rests
  | resetnDeasserted => exact .resetnDeasserted rests
  | fill => exact .fill rests
  | frameCheckFailed => exact .frameCheckFailed rests
  | idle malformed => exact .idle rests malformed
  | linkReset malformed => exact .linkReset rests malformed
  | dataRequest f => exact .dataRequest rests f
  | unknownCommand code f => exact .unknownCommand rests code f
  | windowLoad f => exact manage _ _ f windowLoadAct_sound windowLoadAct_calm
  | windowReplace f => exact manage _ _ f windowReplaceAct_sound windowReplaceAct_calm
  | windowClose f => exact manage _ _ f windowCloseAct_sound windowCloseAct_calm
  | windowRead f => exact manage _ _ f windowReadAct_sound windowReadAct_calm
  | windowFind f => exact manage _ _ f (fun f s _ => .read f s _) fun _ _ _ h => .read h _
  | portConfigure f => exact manage _ _ f portConfigureAct_sound portConfigureAct_calm
  | portEnable f => exact manage _ _ f portEnableAct_sound portEnableAct_calm
  | portDisable f => exact manage _ _ f portDisableAct_sound portDisableAct_calm
  | portReset f => exact manage _ _ f portResetAct_sound portResetAct_calm
  | portStatus f =>
    exact manage _ _ f (fun f s _ => .onPort fun _ => .read f s _) fun _ _ _ h => .onPort h fun _ => .read h _
  | channelLoad f => exact manage _ _ f channelLoadAct_sound channelLoadAct_calm
  | channelAbort f => exact manage _ _ f channelAbortAct_sound channelAbortAct_calm
  | channelResume f => exact manage _ _ f channelResumeAct_sound channelResumeAct_calm
  | channelClear f => exact manage _ _ f channelClearAct_sound channelClearAct_calm
  | channelStatus f =>
    exact manage _ _ f (fun f s _ => .onChannel fun _ => .read f s _) fun _ _ _ h => .onChannel h fun _ => .read h _
  | engineStart f => exact manage _ _ f engineStartAct_sound engineStartAct_calm
  | engineQuench f => exact manage _ _ f (fun _ s _ => .ok (.quench s)) engineQuenchAct_calm
  | quiesce f => exact manage _ _ f quiesceAct_sound quiesceAct_calm
  | resume f => exact manage _ _ f resumeAct_sound resumeAct_calm
  | stop f => exact manage _ _ f stopAct_sound stopAct_calm
  | modeStatus f => exact manage _ _ f (fun f s _ => .read f s _) fun _ _ _ h => .read h _
  | supervisionSet f => exact manage _ _ f supervisionSetAct_sound supervisionSetAct_calm
  | noticeMask f => exact manage _ _ f noticeMaskAct_sound noticeMaskAct_calm
  | managersSet f => exact manage _ _ f managersSetAct_sound managersSetAct_calm
  | countersRead f => exact manage _ _ f countersReadAct_sound countersReadAct_calm
  | trackRead f => exact manage _ _ f trackReadAct_sound trackReadAct_calm
  | identRead f => exact manage _ _ f (fun f s _ => .read f s _) fun _ _ _ h => .read h _
  | causeRead f => exact manage _ _ f (fun f s _ => .read f s _) fun _ _ _ h => .read h _
  | dispatch => exact arbiters 0 _ (by simp)
  | issue p => exact arbiters p _ (by simp)
  | upkeepIssue p => exact arbiters p _ (by simp)
  | copyHalfIssue p => exact arbiters p _ (by simp)
  | bootReadIssue => exact arbiters 0 _ (by simp)
  | holdTaken p => exact arbiters p _ (by simp)
  | portBecomesHeld p => exact arbiters p _ (by simp)
  | portBecomesStopped p => exact arbiters p _ (by simp)
  | quietReached => exact arbiters 0 _ (by simp)
  | installReplacement => exact nothing.install_closes.1
  | installClose => exact nothing.install_closes.2
  | completion p k st data => exact .completion rests p k st data
  | issueTimerExpiry p k => exact .issueTimerExpiry rests p k
  | holdRequestAsserted p => exact .holdRequestAsserted rests p
  | holdRequestDeasserted p => exact .holdRequestDeasserted rests p
  | holdLimitExpiry p => exact .holdLimitExpiry rests p
  | resetPulseExpiry p => exact .resetPulseExpiry rests p
  | paceLineChange p level => exact .follows (.atoms (.setPace s p level))
  | upkeepExpiry p => exact .upkeepExpiry rests p
  | drainTimerExpiry => exact .drainTimerExpiry rests
  | supervisionTimerExpiry => exact .supervisionTimerExpiry rests
  | silenceTimerExpiry => exact .silenceTimerExpiry rests
  | takeCredit => exact transmitter _ (by simp)
  | takeNotice => exact transmitter _ (by simp)
  | takeResponse => exact transmitter _ (by simp)
  | responseSent => exact transmitter _ (by simp)
  | creditSent => exact transmitter _ (by simp)
  | noticeSent => exact transmitter _ (by simp)

end

/-- 1 µs moves timers alone (R78, R89, R92, R100). -/
theorem QuieterPort.tick (q : Port) : QuieterPort q q.tick := by
  have issued : q.tick.anyIssued = q.anyIssued := by
    have slot : ∀ k, (q.tick.slot k).isIssued = (q.slot k).isIssued := fun k => by
      rw [Port.slot_tick]
      cases q.slot k <;> rfl
    simp only [Port.anyIssued, slot]
  exact ⟨id, fun _ => .inr, id, rfl, rfl, rfl, id, issued, rfl⟩

theorem NothingFollows.tick {s : State} (h : NothingFollows s) : NothingFollows s.tick :=
  (h.mapPorts Port.tick .tick).of_watched rfl

/-- Settles O60: an event that gives dispatch, the quiesce test, an arbiter or a settle anything to do ends with what follows from it. -/
theorem stepKeepsNothingDue : Obligations.StepKeepsNothingDue := by
  intro s t boot law nothing next
  have after := stepKeepsTheUseCounts s t boot law next
  refine ⟨?_, ((useCountLaw_iff t).1 after).2⟩
  have ends : ∀ {u : State} {c : Instr}, BootLaw u → UseCountLaw u → NothingDue u → exec c u = .next t → NothingFollows t :=
    fun boot law nothing next => by
      obtain ⟨v, same, h⟩ := closes_exec boot law nothing _
      obtain rfl : v = t := Host.Outcome.next.inj (same.symm.trans next)
      exact h.nothing boot law
  unfold Machine.step at next
  split at next
  next c rest _ =>
    have install : State.installDue { s with pending := rest } = s.installDue := rfl
    exact ends (boot.queue rest) (law.queue rest) ⟨nothing.toNothingFollows.of_watched rfl, install.trans nothing.install⟩ next
  next =>
    unfold State.idle at next
    split at next
    · exact ends boot law nothing next
    · obtain rfl : s.tick = t := Host.Outcome.next.inj next
      exact nothing.toNothingFollows.tick

end Sys2Proof.Machine
end

section
/-! PROOFS. Steps, resets and the Request Link: the statements about one step, the reset values, the link and the transmitter. -/

namespace Sys2Proof.Machine

/-! ## Steps (log 2) -/

/-- Settles O1: the command at the front of the queue is the step. -/
theorem stepRunsTheFrontCommand : Obligations.StepRunsTheFrontCommand := fun c rest s front => by
  simp only [step, front]

/-! ## Reset values (R5, R81, R111, R134, R150, R158, R170, R183, R188) -/

theorem State.window_reset (i : WindowIdx) : State.reset.window i = Window.initial := by simp [State.reset, State.window]

theorem State.port_reset (p : PortId) : State.reset.port p = Port.initial (if p = 0 then .active else .disabled) := by
  fin_cases p <;> rfl

theorem State.channel_reset (c : ChannelId) : State.reset.channel c = Channel.initial := by fin_cases c <;> rfl

theorem Port.slot_initial (st : PortState) (k : SlotId) : (Port.initial st).slot k = .free := by fin_cases k <;> rfl

/-- Every notice kind is enabled at reset (R150). -/
theorem NoticeUnit.enabled_initial (n : Notice) : NoticeUnit.initial.enabled n = true := by
  have kinds : n.kindCode ∈ List.range' 1 14 := by cases n <;> simp [Notice.kindCode]
  have masked : ∀ k ∈ List.range' 1 14, NoticeUnit.initial.mask.getLsbD k = true := by decide
  exact masked _ kinds

/-- The managers set at reset is {0} (R158). -/
theorem managers_reset (r : Requester) : State.reset.managers.getLsbD r.val = decide (r = 0) := by fin_cases r <;> rfl

/-- Settles O4: block by block, as State.reset is made. -/
theorem resetHoldsThePowerOnValues : Obligations.ResetHoldsThePowerOnValues := by
  refine ⟨fun i => by rw [State.window_reset]; rfl, rfl, rfl, fun p => ?_, rfl, rfl, rfl, rfl, fun p => ?_, rfl, fun c => ?_, rfl, rfl,
    NoticeUnit.enabled_initial, rfl, rfl, rfl, managers_reset, rfl, rfl, rfl⟩
  · rw [State.port_reset]
    exact ⟨rfl, rfl⟩
  · rw [State.port_reset]
    exact ⟨rfl, rfl, Port.slot_initial _, rfl, rfl, rfl, rfl, rfl, rfl, rfl, rfl⟩
  · rw [State.channel_reset]
    rfl

/-! ## The invariants at reset -/

theorem State.lock_reset (p : PortId) : (State.reset.port p).lock = none := by rw [State.port_reset]; rfl

theorem BootLaw.reset : BootLaw State.reset where
  phase := by decide
  windows _ i := by rw [State.window_reset]; exact ⟨rfl, rfl⟩
  deferred _ := rfl
  queues _ := ⟨rfl, rfl, rfl, rfl⟩
  credits _ := ⟨rfl, rfl⟩
  link _ := ⟨rfl, rfl, rfl⟩
  pulses _ p := by rw [State.port_reset]; rfl
  reads _ := rfl

theorem UseCountLaw.reset : UseCountLaw State.reset :=
  .unused rfl rfl rfl (fun i => by rw [State.window_reset]; exact ⟨rfl, nofun⟩) State.lock_reset

theorem OverlapLaw.reset : OverlapLaw State.reset := fun i _ _ _ _ reserved _ => by
  rw [State.window_reset] at reserved
  cases reserved

theorem TagLaw.reset : TagLaw State.reset where
  once := List.nodup_nil
  held := .refl _
  deferred := .refl _
  answered := .refl _
  pulses p _ := by rw [State.port_reset]; rfl

theorem CreditLaw.reset : CreditLaw State.reset where
  once := nofun
  owed _ := ⟨rfl, rfl, rfl, rfl, rfl, rfl⟩
  data granted := absurd (.inl rfl) granted
  management granted := absurd (.inl rfl) granted

theorem EntriesOwn.reset : EntriesOwn State.reset := ⟨List.nodup_nil, fun p i lock => by simp [State.lock_reset] at lock⟩

/-- The first step from reset is a read of the boot image, and what follows from it (R86, R183). -/
theorem step_reset : step State.reset = .next (State.reset.serve 0).followUp := by
  have first : step State.reset = exec .bootReadIssue State.reset := rfl
  rw [first]
  exact (exec_serve State.reset 0).2.2.1 rfl rfl

/-- Settles O52: nothing is held at reset, and the first step leaves what follows from it. -/
theorem resetHoldsTheInvariants : Obligations.ResetHoldsTheInvariants := by
  refine ⟨.reset, .reset, .reset, fun p => ?_, ?_, .reset, .reset, ⟨_, step_reset, ?_⟩, _, rfl, ?_⟩
  · rw [State.port_reset]
    exact .cleared rfl rfl
  · exact ⟨by decide, List.Pairwise.nil, nofun, by decide, by decide⟩
  · have after := stepKeepsTheUseCounts _ _ .reset .reset step_reset
    exact ⟨(EntriesOwn.reset.serve 0).followUp_done, ((useCountLaw_iff _).1 after).2⟩
  · obtain ⟨-, before⟩ := boot_useCounts_kept.event (s := State.reset) (.reset (cause := .powerOn) (level := false) .refl) ⟨.reset, .reset⟩
    obtain ⟨-, after⟩ := boot_useCounts_kept.event (s := State.reset) (.reset (cause := .powerOn) (level := false) (.followUp _))
      ⟨.reset, .reset⟩
    exact ⟨EntriesOwn.followUp_done ⟨before.indexes, before.locks⟩, ((useCountLaw_iff _).1 after).2⟩

/-! ## The part's own steps (log 2) -/

theorem mem_whenDue {due : Bool} {c d : Instr} : d ∈ whenDue due c ↔ due = true ∧ d = c := by
  cases due <;> simp [whenDue]

theorem State.dueInstall_due {s : State} {c : Instr} (h : c ∈ s.dueInstall) : DueStep s c := by
  unfold State.dueInstall at h
  split at h
  next d x due =>
    obtain ⟨deferred, draining, unused, l, pending⟩ := State.installDue_some due
    obtain rfl := List.mem_singleton.1 h
    exact ⟨d, x, l, deferred, draining, unused, pending⟩
  next d due =>
    obtain ⟨deferred, draining, unused, l, pending⟩ := State.installDue_some due
    obtain rfl := List.mem_singleton.1 h
    exact ⟨d, l, deferred, draining, unused, pending⟩
  · cases h

theorem State.dueSettle_due {s : State} {p : PortId} {c : Instr} (h : c ∈ s.dueSettle p) : DueStep s c := by
  unfold State.dueSettle at h
  split at h
  next settling =>
    obtain ⟨idle, rfl⟩ := mem_whenDue.1 h
    exact ⟨settling, by simpa using idle⟩
  next settling =>
    obtain ⟨idle, rfl⟩ := mem_whenDue.1 h
    exact ⟨settling, by simpa using idle⟩
  · cases h

theorem State.dueIssue_due {s : State} {p : PortId} {c : Instr} (h : c ∈ s.dueIssue p) : DueStep s c := by
  unfold State.dueIssue at h
  split at h
  next chosen => exact List.mem_singleton.1 h ▸ chosen
  next chosen => exact List.mem_singleton.1 h ▸ chosen
  next chosen =>
    obtain ⟨rfl, -⟩ := State.arbiterChoice_boot chosen
    exact List.mem_singleton.1 h ▸ chosen
  next chosen => exact List.mem_singleton.1 h ▸ ⟨_, chosen⟩
  next chosen => exact List.mem_singleton.1 h ▸ ⟨_, chosen⟩
  next => cases h

/-- What the Notice Unit offers (R154, R155). -/
theorem State.noticeOffered_iff (s : State) : s.noticeOffered = true ↔
    s.mc.mode ≠ .booting ∧ s.nu.queue ≠ [] ∧ (s.li.responses = [] ∨ s.nu.run = 8) := by
  simp [State.noticeOffered, Config.responseRun, and_assoc]

theorem State.dueTake_iff {s : State} {c : Instr} : c ∈ s.dueTake ↔
    (c = .takeCredit ∧ s.transmitChoice = some .credit) ∨ (c = .takeNotice ∧ s.transmitChoice = some .notice) ∨
      (c = .takeResponse ∧ s.transmitChoice = some .response) := by
  unfold State.dueTake
  split <;> simp_all

theorem DueStep.takeCredit_iff (s : State) : DueStep s .takeCredit ↔ s.transmitChoice = some .credit := by
  rw [DueStep]
  exact s.transmitChoice_iff.1.symm

theorem DueStep.takeNotice_iff (s : State) : DueStep s .takeNotice ↔ s.transmitChoice = some .notice := by
  rw [DueStep, s.transmitChoice_iff.2.1, s.noticeOffered_iff]

theorem DueStep.takeResponse_iff (s : State) : DueStep s .takeResponse ↔ s.transmitChoice = some .response := by
  have unoffered : s.noticeOffered = false ↔ ¬ (s.mc.mode ≠ .booting ∧ s.nu.queue ≠ [] ∧ (s.li.responses = [] ∨ s.nu.run = 8)) := by
    rw [← s.noticeOffered_iff, Bool.not_eq_true]
  rw [DueStep, s.transmitChoice_iff.2.2, unoffered]
  tauto

theorem State.duePortExpiries_due {s : State} {p : PortId} {c : Instr} (h : c ∈ s.duePortExpiries p) : DueStep s c := by
  simp only [State.duePortExpiries, List.mem_append, List.mem_flatMap, mem_whenDue] at h
  rcases h with ((⟨k, -, expired, rfl⟩ | ⟨due, rfl⟩) | ⟨due, rfl⟩) | ⟨due, rfl⟩
  · cases slot : (s.port p).slot k <;> simp_all [Slot.expired, DueStep]
  · simpa [DueStep] using due
  · simpa [DueStep, Option.any_eq_true] using due
  · simpa [DueStep, Option.any_eq_true] using due

theorem State.dueSent_due {s : State} {c : Instr} (h : c ∈ s.dueSent) : DueStep s c := by
  unfold State.dueSent at h
  split at h
  next sent => exact List.mem_singleton.1 h ▸ ⟨_, _, sent⟩
  next sent => exact List.mem_singleton.1 h ▸ ⟨_, _, _, sent⟩
  next sent => exact List.mem_singleton.1 h ▸ ⟨_, sent⟩
  next => cases h

theorem State.dueTake_due {s : State} {c : Instr} (h : c ∈ s.dueTake) : DueStep s c := by
  rcases State.dueTake_iff.1 h with ⟨rfl, choice⟩ | ⟨rfl, choice⟩ | ⟨rfl, choice⟩
  · exact (DueStep.takeCredit_iff s).2 choice
  · exact (DueStep.takeNotice_iff s).2 choice
  · exact (DueStep.takeResponse_iff s).2 choice

theorem ModeController.quietDue_iff (m : ModeController) : m.quietDue = true ↔
    m.mode = .quiescing ∧ m.queueEmpty = true ∧ m.trackingEmpty = true ∧ m.unitsInFlight = false := by
  simp [ModeController.quietDue, ModeController.quiesceConditions, and_assoc]

/-- Some entry is dispatchable exactly when dispatch is due (R41, R42). -/
theorem State.dispatchDue_iff (s : State) : (s.oldestDispatchable.isSome && s.freeIndex?.isSome) = true ↔
    ∃ e ∈ s.requestQueue, s.dispatchable e = true := by
  rw [Bool.and_eq_true]
  constructor
  · rintro ⟨oldest, -⟩
    obtain ⟨e, he⟩ := Option.isSome_iff_exists.1 oldest
    obtain ⟨mem, dispatchable, -⟩ := State.oldestDispatchable_some he
    exact ⟨e, mem, dispatchable⟩
  · rintro ⟨e, mem, dispatchable⟩
    have oldest : s.oldestDispatchable.isSome = true := List.find?_isSome.2 ⟨e, mem, dispatchable⟩
    obtain ⟨x, hx⟩ := Option.isSome_iff_exists.1 oldest
    obtain ⟨-, -, i, free⟩ := State.oldestDispatchable_some hx
    exact ⟨oldest, by simp [free]⟩

/-- A step that the part takes for its own is due (log 2). -/
theorem State.dueSteps_due {s : State} {c : Instr} (h : c ∈ s.dueSteps ++ s.dueExpiries) : DueStep s c := by
  simp only [State.dueSteps, State.dueExpiries, List.mem_append, List.mem_flatMap, mem_whenDue] at h
  rcases h with (((((h | ⟨p, -, h⟩) | ⟨due, rfl⟩) | ⟨due, rfl⟩) | ⟨p, -, h⟩) | h) |
    ((((⟨p, -, h⟩ | ⟨due, rfl⟩) | ⟨due, rfl⟩) | ⟨due, rfl⟩) | h)
  · exact State.dueInstall_due h
  · exact State.dueSettle_due h
  · exact (ModeController.quietDue_iff _).1 due
  · exact s.dispatchDue_iff.1 due
  · exact State.dueIssue_due h
  · exact State.dueTake_due h
  · exact State.duePortExpiries_due h
  · simpa [DueStep, State.drainExpired, Option.any_eq_true] using due
  · simpa [DueStep] using due
  · simpa [DueStep] using due
  · exact State.dueSent_due h

/-- Where each of the part's own steps stands among those that are due (log 2). -/
inductive OwnStep (s : State) (c : Instr) : Prop
  | install (h : c ∈ s.dueInstall)
  | settle (p : PortId) (h : c ∈ s.dueSettle p)
  | quiet (due : s.mc.quietDue = true) (h : c = .quietReached)
  | dispatch (due : (s.oldestDispatchable.isSome && s.freeIndex?.isSome) = true) (h : c = .dispatch)
  | issue (p : PortId) (h : c ∈ s.dueIssue p)
  | take (h : c ∈ s.dueTake)
  | expiry (p : PortId) (h : c ∈ s.duePortExpiries p)
  | drain (due : s.drainExpired = true) (h : c = .drainTimerExpiry)
  | supervision (due : (s.mc.timer == .running 0) = true) (h : c = .supervisionTimerExpiry)
  | silence (due : (s.li.up && s.li.silence == some 0) = true) (h : c = .silenceTimerExpiry)
  | sent (h : c ∈ s.dueSent)

theorem OwnStep.mem {s : State} {c : Instr} (h : OwnStep s c) : c ∈ s.dueSteps ++ s.dueExpiries := by
  simp only [State.dueSteps, State.dueExpiries, List.mem_append, List.mem_flatMap, mem_whenDue]
  cases h with
  | install h => exact .inl (.inl (.inl (.inl (.inl (.inl h)))))
  | settle p h => exact .inl (.inl (.inl (.inl (.inl (.inr ⟨p, List.mem_finRange p, h⟩)))))
  | quiet due h => exact .inl (.inl (.inl (.inl (.inr ⟨due, h⟩))))
  | dispatch due h => exact .inl (.inl (.inl (.inr ⟨due, h⟩)))
  | issue p h => exact .inl (.inl (.inr ⟨p, List.mem_finRange p, h⟩))
  | take h => exact .inl (.inr h)
  | expiry p h => exact .inr (.inl (.inl (.inl (.inl ⟨p, List.mem_finRange p, h⟩))))
  | drain due h => exact .inr (.inl (.inl (.inl (.inr ⟨due, h⟩))))
  | supervision due h => exact .inr (.inl (.inl (.inr ⟨due, h⟩)))
  | silence due h => exact .inr (.inl (.inr ⟨due, h⟩))
  | sent h => exact .inr (.inr h)

theorem State.installDue_of {s : State} {d : DeferredOp} {x : PendingChange} {l : BitVec 8} (deferred : s.deferred = some d)
    (draining : (s.window d.index).state = .draining) (unused : (s.window d.index).useCount = 0)
    (pending : (s.window d.index).pending = some ⟨x, l⟩) : s.installDue = some (d, x) := by
  simp [State.installDue, deferred, draining, unused, pending]

/-- Every expiry of a port that is due is among its expiries (R79, R89, R93, R100). -/
theorem State.mem_duePortExpiries (s : State) (p : PortId) (c : Instr) : c ∈ s.duePortExpiries p ↔
    (∃ k, ((s.port p).slot k).expired = true ∧ c = .issueTimerExpiry p k) ∨
      ((s.port p).state = .held ∧ (s.port p).holdTimer = some 0 ∧ c = .holdLimitExpiry p) ∨
      ((s.port p).state = .resetting ∧ ((s.port p).pulse.any fun u => u.timer == 0) = true ∧ c = .resetPulseExpiry p) ∨
      (((s.port p).upkeep.timer.any fun t => t.left == 0) = true ∧ c = .upkeepExpiry p) := by
  simp [State.duePortExpiries, mem_whenDue, and_assoc]

/-- A step that is due is one that the part takes for its own (log 2). -/
theorem DueStep.own {s : State} {c : Instr} (h : DueStep s c) : OwnStep s c := by
  cases c with
  | installReplacement =>
    obtain ⟨d, x, l, deferred, draining, unused, pending⟩ := h
    exact .install (by simp [State.dueInstall, State.installDue_of deferred draining unused pending])
  | installClose =>
    obtain ⟨d, l, deferred, draining, unused, pending⟩ := h
    exact .install (by simp [State.dueInstall, State.installDue_of deferred draining unused pending])
  | portBecomesHeld p => exact .settle p (by simp [State.dueSettle, h.1, h.2, whenDue])
  | portBecomesStopped p => exact .settle p (by simp [State.dueSettle, h.1, h.2, whenDue])
  | quietReached => exact .quiet ((ModeController.quietDue_iff _).2 h) rfl
  | dispatch => exact .dispatch (s.dispatchDue_iff.2 h) rfl
  | upkeepIssue p => exact .issue p (by simp [State.dueIssue, show s.arbiterChoice p = _ from h])
  | holdTaken p => exact .issue p (by simp [State.dueIssue, show s.arbiterChoice p = _ from h])
  | bootReadIssue => exact .issue 0 (by simp [State.dueIssue, show s.arbiterChoice 0 = _ from h])
  | copyHalfIssue p =>
    obtain ⟨x, chosen⟩ := h
    exact .issue p (by simp [State.dueIssue, chosen])
  | issue p =>
    obtain ⟨x, chosen⟩ := h
    exact .issue p (by simp [State.dueIssue, chosen])
  | takeCredit => exact .take (State.dueTake_iff.2 (.inl ⟨rfl, (DueStep.takeCredit_iff s).1 h⟩))
  | takeNotice => exact .take (State.dueTake_iff.2 (.inr (.inl ⟨rfl, (DueStep.takeNotice_iff s).1 h⟩)))
  | takeResponse => exact .take (State.dueTake_iff.2 (.inr (.inr ⟨rfl, (DueStep.takeResponse_iff s).1 h⟩)))
  | issueTimerExpiry p k =>
    obtain ⟨holder, cmd, slot⟩ := h
    exact .expiry p ((s.mem_duePortExpiries p _).2 (.inl ⟨k, by simp [slot, Slot.expired], rfl⟩))
  | holdLimitExpiry p => exact .expiry p ((s.mem_duePortExpiries p _).2 (.inr (.inl ⟨h.1, h.2, rfl⟩)))
  | resetPulseExpiry p =>
    obtain ⟨resetting, u, pulse, expired⟩ := h
    exact .expiry p ((s.mem_duePortExpiries p _).2 (.inr (.inr (.inl ⟨resetting, by simp [pulse, expired], rfl⟩))))
  | upkeepExpiry p =>
    obtain ⟨x, timer, expired⟩ := h
    exact .expiry p ((s.mem_duePortExpiries p _).2 (.inr (.inr (.inr ⟨by simp [timer, expired], rfl⟩))))
  | drainTimerExpiry =>
    obtain ⟨d, deferred, expired, draining⟩ := h
    exact .drain (by simp [State.drainExpired, deferred, expired, draining]) rfl
  | supervisionTimerExpiry => exact .supervision (by simp [show s.mc.timer = _ from h]) rfl
  | silenceTimerExpiry => exact .silence (by simp [h.1, h.2]) rfl
  | responseSent =>
    obtain ⟨r, e, sent⟩ := h
    exact .sent (by simp [State.dueSent, sent])
  | noticeSent =>
    obtain ⟨n, lost, e, sent⟩ := h
    exact .sent (by simp [State.dueSent, sent])
  | creditSent =>
    obtain ⟨e, sent⟩ := h
    exact .sent (by simp [State.dueSent, sent])
  | _ => exact h.elim

/-- The part has a step of its own exactly when one is due (log 2). -/
theorem State.ownStep_none (s : State) : s.ownStep = none ↔ ∀ c, ¬ DueStep s c := by
  rw [State.ownStep, List.head?_eq_none_iff, List.eq_nil_iff_forall_not_mem]
  exact forall_congr' fun c => not_congr ⟨State.dueSteps_due, fun due => due.own.mem⟩

/-! ## 1 µs (R78, R89, R92, R100, R144, R173, R178) -/

/-- Settles O2: with no command waiting the first step that is due is taken, and time passes when none is. -/
theorem stepOnAnEmptyQueue : Obligations.StepOnAnEmptyQueue := by
  intro s empty
  have idle : step s = s.idle := by simp only [step, empty]
  refine ⟨fun c own => ⟨State.dueSteps_due (List.mem_of_mem_head? own), ?_⟩, s.ownStep_none, fun none => ⟨s.tick, ?_, ?_, fun p => ?_⟩⟩
  · rw [idle, State.idle, own]
  · rw [idle, State.idle, s.ownStep_none.2 none]
  · unfold State.tick
    generalize s.mc.timer = x
    cases x <;> rfl
  · rw [State.port_tick]
    refine ⟨rfl, fun k => ?_⟩
    rw [Port.slot_tick]
    cases (s.port p).slot k <;> rfl

/-! ## Power-on and pin reset (R182, R188) -/

/-- Settles O5: every block is as State.reset makes it, but for the queue, the Cause Record and the input lines. -/
theorem powerOnAndPinReset : Obligations.PowerOnAndPinReset := by
  intro s
  refine ⟨⟨_, rfl, rfl, s.port_atReset_eq _ _⟩, fun off => ⟨_, ?_, rfl, s.port_atReset_eq _ _⟩, fun on => ⟨?_, ?_⟩, fun off => ?_⟩
  · simp only [exec, execPinReset, State.unlessReset, off]
    rfl
  · simp [exec, execPinReset, State.unlessReset, on]
  · simp [exec, execResetnDeasserted, on]
  · simp [exec, execResetnDeasserted, off]

/-! ## The link (R172, R173, R174) -/

/-- What a frame that fails the check does to the Link Interface (R172, R173). -/
theorem LinkInterface.checkFailed_eq (l : LinkInterface) : l.checkFailed =
    { l with
      checkErrors := l.checkErrors + 1
      failureRun := min 8 (l.failureRun + 1)
      up := l.up && decide (l.failureRun + 1 < 8)
      silence := if l.up then (if l.failureRun + 1 < 8 then some 64 else none) else l.silence } := by
  have reached : min 8 (l.failureRun + 1) = 8 ↔ ¬ l.failureRun + 1 < 8 := by omega
  simp only [LinkInterface.checkFailed, Config.failureRun, Config.silenceMicros, reached]
  by_cases up : l.up = true
  · by_cases more : l.failureRun + 1 < 8 <;> simp [up, more]
  · simp [up]

/-- Settles O7: case by case of the link and of the frame. -/
theorem linkComesUpAndGoesDown : Obligations.LinkComesUpAndGoesDown := by
  intro s off
  refine ⟨?_, ?_, fun up run => ?_, fun stays => ?_, ?_, ?_, fun booting => ?_, ?_⟩
  · simp only [exec, execFill, State.unlessReset_off off, State.raiseRestored]
    cases up : s.li.up <;> simp [LinkInterface.seen, State.raise, up, Config.silenceMicros]
  · simp only [exec, execFrameCheckFailed, State.unlessReset_off off, LinkInterface.checkFailed_eq]
  · simp [exec, execSilenceTimerExpiry, up, run]
  · have kept : ¬ (s.li.up = true ∧ s.li.silence = some 0) := fun h => stays.elim (by simp [h.1]) fun other => other h.2
    simp only [exec, execSilenceTimerExpiry, if_neg kept]
  · simp only [exec, execIdle, State.unlessReset_off off, s.validFrame_raiseRestored]
    rfl
  · simp only [exec, execIdle, State.unlessReset_off off, s.validFrame_raiseRestored]
    rfl
  · simp only [exec, execLinkReset, State.unlessReset_off off, booting, if_true, Bool.false_eq_true, if_false]
    unfold State.raiseRestored State.received
    cases s.li.up <;> rfl
  · simp only [exec, execLinkReset, State.unlessReset_off off, s.validFrame_raiseRestored]
    rfl

/-! ## The transmitter (R153, R154, R176, R178) -/

/-- The line time of a frame is its bytes and two delimiters (R178). -/
theorem SentFrame.lineBytes_eq (f : SentFrame) : f.lineBytes = f.bytes.length + 2 := by
  simp [SentFrame.lineBytes, SentFrame.bytes, sealed, checkField]

/-- The response run counts while a notice waits (R154). -/
theorem NoticeUnit.countResponse_eq (u : NoticeUnit) :
    u.countResponse = { u with run := if u.queue = [] then u.run else min 8 (u.run + 1) } := by
  unfold NoticeUnit.countResponse
  cases u with
  | mk queue mask lost run => cases queue <;> rfl

/-- Settles O9: what the transmitter chooses, and what its taking does. -/
theorem transmitterTakesInOrder : Obligations.TransmitterTakesInOrder := by
  intro s off up idle
  have free : s.transmitterFree := ⟨off, up, idle⟩
  obtain ⟨credit, notice, response⟩ := s.transmitChoice_iff
  refine ⟨fun pending => ?_, fun n rest pending running queue turn => ?_, fun r rest pending queue turn => ?_⟩
  · simp only [exec, execTakeCredit, credit.2 ⟨free, pending⟩, if_true]
    rfl
  · have offered := s.noticeOffered_iff.2 ⟨running, by simp [queue], turn⟩
    simp only [exec, execTakeNotice, notice.2 ⟨free, pending, offered⟩, queue, LinkInterface.take, SentFrame.lineBytes_eq]
  · have unoffered : s.noticeOffered = false := by
      rw [← Bool.not_eq_true, s.noticeOffered_iff]
      rintro ⟨running, waits, empty | full⟩
      · simp [queue] at empty
      · exact turn.elim waits fun turn => turn.elim running fun early => early full
    simp only [exec, execTakeResponse, response.2 ⟨free, pending, unoffered, by simp [queue]⟩, queue, LinkInterface.take,
      SentFrame.lineBytes_eq, NoticeUnit.countResponse_eq]

/-- Settles O10: by the frame in transmission, and for a RESPONSE by its pool and its refusal mark. -/
theorem endsOfTransmission : Obligations.EndsOfTransmission := by
  intro s r n lost bytes e
  refine ⟨fun sent pool => ?_, fun sent pool => ?_, fun sent => ?_, fun sent => ?_, fun sent => ?_, fun sent => ?_⟩
  · simp only [exec, execResponseSent, sent, State.responseSent, pool]
    cases r.refusalMark <;> rfl
  · simp only [exec, execResponseSent, sent, State.responseSent, pool]
    cases r.refusalMark <;> rfl
  · simp only [exec, execResponseSent, sent]
    rfl
  · simp only [exec, execCreditSent, sent]
    rfl
  · simp only [exec, execCreditSent, sent]
    rfl
  · simp only [exec, execNoticeSent, sent]
    rfl

end Sys2Proof.Machine
end

section
/-! PROOFS. The link reset event (R179), block by block. -/

namespace Sys2Proof.Machine

/-! ## The stall tests (R65) -/

theorem State.port_stallTest (s : State) (p q : PortId) : (s.stallTest p).port q =
    if p = q then { s.port p with stallReport := (s.port p).stallReport || (s.port p).stalled } else s.port q := by
  unfold State.stallTest
  split
  next tested =>
    show (s.updPort p fun x => { x with stallReport := true }).port q = _
    rw [State.port_updPort]
    simp only [Bool.and_eq_true] at tested
    simp only [tested.1, Bool.or_true]
  next tested =>
    split
    next same =>
      subst same
      have kept : ((s.port p).stallReport || (s.port p).stalled) = (s.port p).stallReport := by
        cases report : (s.port p).stallReport <;> simp_all
      rw [kept]
    · rfl

theorem State.nu_stallTest (s : State) (p : PortId) : (s.stallTest p).nu =
    if (s.port p).stallReport = false ∧ (s.port p).stalled = true then s.nu.raise (.portStalled p) else s.nu := by
  unfold State.stallTest
  by_cases stalled : (s.port p).stalled = true <;> by_cases report : (s.port p).stallReport = true <;> simp [stalled, report]

/-- The stall tests of the four ports (R65, R179). -/
def State.stallTests (s : State) : State := (((s.stallTest 0).stallTest 1).stallTest 2).stallTest 3

theorem State.stallTests_rest (s : State) : { s.stallTests with nu := s.nu, ports := s.ports } = s := by
  have rest : ∀ (u : State) (p : PortId), { u.stallTest p with nu := s.nu, ports := s.ports } = { u with nu := s.nu, ports := s.ports } :=
    fun u p => congrArg (fun v : State => { v with nu := s.nu, ports := s.ports }) (u.stallTest_frame p).rest
  simp only [State.stallTests, rest]

theorem State.port_stallTests (s : State) (q : PortId) :
    s.stallTests.port q = { s.port q with stallReport := (s.port q).stallReport || (s.port q).stalled } := by
  simp only [State.stallTests, State.port_stallTest]
  fin_cases q <;> rfl

theorem State.nu_stallTests (s : State) : s.stallTests.nu = (List.finRange 4).foldl
    (fun u p => if (s.port p).stallReport = false ∧ (s.port p).stalled = true then u.raise (.portStalled p) else u) s.nu := by
  simp only [State.stallTests, State.nu_stallTest, State.port_stallTest]
  rfl

/-! ## The blocks' parts (R6, R50, R65, R73, R133, R142, R179) -/

theorem State.window_linkResetBlocks (s : State) (i : WindowIdx) : s.linkResetBlocks.window i = (s.window i).linkReset := by
  simp [State.linkResetBlocks, State.window, State.quench, State.mapChannels, State.mapPorts, State.mapWindows, State.reportQueue,
    State.reportTracking]

theorem State.port_linkResetBlocks (s : State) (p : PortId) : s.linkResetBlocks.port p = (s.port p).linkReset := by
  simp [State.linkResetBlocks, State.port, State.quench, State.mapChannels, State.mapPorts, State.mapWindows, State.reportQueue,
    State.reportTracking]

theorem State.channel_linkResetBlocks (s : State) (c : ChannelId) : s.linkResetBlocks.channel c = (s.channel c).quench := by
  simp [State.linkResetBlocks, State.channel, State.quench, State.mapChannels, State.mapPorts, State.mapWindows, State.reportQueue,
    State.reportTracking]

theorem Port.slot_linkReset (q : Port) (k : SlotId) : q.linkReset.slot k = (q.slot k).linkReset := by
  simp [Port.linkReset, Port.slot]

theorem State.linkResetMode_nu (s : State) : s.linkResetMode.nu =
    if s.mc.mode = .run then s.nu else s.nu.raise (.modeChanged .run s.mc.mode .linkReset) := by
  unfold State.linkResetMode
  simp only
  split
  next run => rw [if_pos run]
  next stop =>
    rw [if_neg (by simp [stop])]
    rfl
  next run _ =>
    rw [if_neg run]
    rfl

/-- The end of STOP and a link reset act on different fields of a port (R73, R91). -/
theorem Port.linkReset_modeLeavesStop (q : Port) : q.linkReset.modeLeavesStop = q.modeLeavesStop.linkReset := by
  have state : q.linkReset.state = q.state := rfl
  unfold Port.modeLeavesStop
  rw [state]
  split <;> rfl

/-- A state that differs from another in what a link reset's notices, mode change and stall tests touch. -/
def State.SameBlocks (s t : State) : Prop := { t with nu := s.nu, ports := s.ports, mc := s.mc } = s

theorem State.SameBlocks.trans {s t u : State} (h : s.SameBlocks t) (g : t.SameBlocks u) : s.SameBlocks u := by
  have same := congrArg (fun v : State => { v with nu := s.nu, ports := s.ports, mc := s.mc }) g
  exact same.trans h

theorem State.SameBlocks.of_rest {s t : State} (h : { t with nu := s.nu, ports := s.ports } = s) : s.SameBlocks t := by
  have same := congrArg (fun v : State => { v with mc := s.mc }) h
  exact same

theorem State.mc_of_rest {s t : State} (h : { t with nu := s.nu, ports := s.ports } = s) : t.mc = s.mc := by
  have same := congrArg (fun v : State => v.mc) h
  exact same

/-- The state after a link reset, before the notice of a restored link (R65, R142, R179). -/
def State.linkResetTests (s : State) : State := s.linkResetBlocks.linkResetMode.stallTests

theorem State.takeLinkReset_eq (s : State) (wasUp : Bool) : s.takeLinkReset wasUp = s.linkResetTests.raiseRestored wasUp := rfl

/-- A restored link adds its notice alone (R173). -/
theorem State.raiseRestored_eq (s : State) (wasUp : Bool) :
    s.raiseRestored wasUp = { s with nu := if wasUp then s.nu else s.nu.raise .linkRestored } := by
  cases wasUp <;> rfl

theorem State.takeLinkReset_blocks (s : State) (wasUp : Bool) : s.linkResetBlocks.SameBlocks (s.takeLinkReset wasUp) := by
  have mode : s.linkResetBlocks.SameBlocks s.linkResetBlocks.linkResetMode := s.linkResetBlocks.linkResetMode_frame.rest
  have tests : ∀ u : State, u.SameBlocks u.stallTests := fun u => .of_rest u.stallTests_rest
  have restored : ∀ u : State, u.SameBlocks (u.raiseRestored wasUp) := fun u => by
    rw [State.raiseRestored_eq]
    rfl
  exact (mode.trans (tests _)).trans (restored _)

/-- The ports after a link reset (R65, R73, R91). -/
theorem State.port_takeLinkReset (s : State) (wasUp : Bool) (p : PortId) : (s.takeLinkReset wasUp).port p =
    let q := if s.mc.mode = .stop then (s.port p).modeLeavesStop.linkReset else (s.port p).linkReset
    { q with stallReport := q.stallReport || q.stalled } := by
  have frame := s.linkResetBlocks.linkResetMode_frame
  have mode : s.linkResetBlocks.linkResetMode.port p =
      if s.mc.mode = .stop then (s.port p).modeLeavesStop.linkReset else (s.port p).linkReset := by
    split
    next stop => rw [frame.portStop stop, State.port_linkResetBlocks, Port.linkReset_modeLeavesStop]
    next stop => rw [State.port, frame.port stop, ← State.port, State.port_linkResetBlocks]
  rw [State.takeLinkReset_eq, State.port_raiseRestored, State.linkResetTests, State.port_stallTests, mode]

/-- The notices of a link reset (R65, R142, R157, R173; log 8). -/
theorem State.nu_takeLinkReset (s : State) (wasUp : Bool) : (s.takeLinkReset wasUp).nu =
    if wasUp then s.linkResetTests.nu else s.linkResetTests.nu.raise .linkRestored := by
  rw [State.takeLinkReset_eq, State.raiseRestored_eq]

theorem State.mc_takeLinkReset (s : State) (wasUp : Bool) : (s.takeLinkReset wasUp).mc =
    { s.mc with mode := .run, stopOnQuiet := false, queueEmpty := true, trackingEmpty := true } := by
  have tests : ∀ u : State, u.stallTests.mc = u.mc := fun u => State.mc_of_rest u.stallTests_rest
  rw [State.takeLinkReset_eq, State.raiseRestored_mc, State.linkResetTests, tests, s.linkResetBlocks.linkResetMode_frame.mc]
  rfl

/-- A port after a link reset keeps its settings, its line levels and its free-slot order (R73, R81, R93). -/
structure LinkResetPort (q r : Port) : Prop where
  slots : ∀ k, r.slot k = (q.slot k).linkReset
  lock : r.lock = none
  config : r.config = q.config
  counters : r.counters = q.counters
  order : r.freeOrder = q.freeOrder
  turn : r.turn = q.turn
  request : r.holdRequest = q.holdRequest
  pace : r.pace = q.pace
  pulse : r.pulse = q.pulse.map fun u => { u with answerTo := none }
  report : r.stallReport = (q.stallReport || decide (∀ k, r.slot k = .lingering))

theorem Port.linkReset_tested (q : Port) :
    LinkResetPort q { q.linkReset with stallReport := q.linkReset.stallReport || q.linkReset.stalled } where
  slots := q.slot_linkReset
  lock := rfl
  config := rfl
  counters := rfl
  order := rfl
  turn := rfl
  request := rfl
  pace := rfl
  pulse := rfl
  report := by
    have stalled : q.linkReset.stalled = decide (∀ k, q.linkReset.slot k = .lingering) := by
      rw [Bool.eq_iff_iff, Port.stalled_iff, decide_eq_true_iff]
    exact congrArg (q.stallReport || ·) stalled

theorem Port.holdTimer_modeLeavesStop (q : Port) : q.modeLeavesStop.holdTimer = q.holdTimer := by
  unfold Port.modeLeavesStop
  split <;> rfl

theorem Port.stallReport_modeLeavesStop (q : Port) : q.modeLeavesStop.stallReport = q.stallReport := by
  unfold Port.modeLeavesStop
  split <;> rfl

theorem Port.leftStop_tested (q : Port) : LinkResetPort q
    { q.modeLeavesStop.linkReset with
      stallReport := q.modeLeavesStop.linkReset.stallReport || q.modeLeavesStop.linkReset.stalled } := by
  obtain ⟨slots, lock, config, counters, order, turn, request, pace, pulse⟩ := q.modeLeavesStop_keeps
  have law := q.modeLeavesStop.linkReset_tested
  exact {
    slots := fun k => (law.slots k).trans (by rw [Port.slot, slots, Port.slot])
    lock := rfl
    config := config
    counters := counters
    order := order
    turn := turn
    request := request
    pace := pace
    pulse := law.pulse.trans (by rw [pulse])
    report := law.report.trans (by rw [q.stallReport_modeLeavesStop]) }

theorem State.linkResetPort_takeLinkReset (s : State) (wasUp : Bool) (p : PortId) :
    LinkResetPort (s.port p) ((s.takeLinkReset wasUp).port p) := by
  rw [State.port_takeLinkReset]
  split
  · exact (s.port p).leftStop_tested
  · exact (s.port p).linkReset_tested

theorem State.port_linkResetMode_stall (s : State) (p : PortId) :
    (s.linkResetBlocks.linkResetMode.port p).stallReport = (s.port p).stallReport ∧
      ∀ k, (s.linkResetBlocks.linkResetMode.port p).slot k = ((s.port p).slot k).linkReset := by
  have frame := s.linkResetBlocks.linkResetMode_frame
  by_cases stop : s.mc.mode = .stop
  · rw [frame.portStop stop, State.port_linkResetBlocks, Port.linkReset_modeLeavesStop]
    have tested := (s.port p).leftStop_tested
    exact ⟨(s.port p).stallReport_modeLeavesStop, tested.slots⟩
  · rw [State.port, frame.port stop, ← State.port, State.port_linkResetBlocks]
    exact ⟨rfl, (s.port p).slot_linkReset⟩

/-- The notices of the mode change and of the stall tests (R65, R142, R157). -/
theorem State.nu_linkResetTests (s : State) (wasUp : Bool) : s.linkResetTests.nu = (List.finRange 4).foldl
    (fun (u : NoticeUnit) p =>
      if (s.port p).stallReport = false ∧ ∀ k, ((s.takeLinkReset wasUp).port p).slot k = .lingering then u.raise (.portStalled p) else u)
    (if s.mc.mode = .run then { s.nu with queue := [], run := 0 }
      else { s.nu with queue := [], run := 0 }.raise (.modeChanged .run s.mc.mode .linkReset)) := by
  have tested : ∀ p, ((s.linkResetBlocks.linkResetMode.port p).stallReport = false ∧
      (s.linkResetBlocks.linkResetMode.port p).stalled = true) ↔
      ((s.port p).stallReport = false ∧ ∀ k, ((s.takeLinkReset wasUp).port p).slot k = .lingering) := fun p => by
    obtain ⟨report, slots⟩ := s.port_linkResetMode_stall p
    simp only [report, Port.stalled_iff, slots, (s.linkResetPort_takeLinkReset wasUp p).slots]
  rw [State.linkResetTests, State.nu_stallTests, State.linkResetMode_nu]
  simp only [tested]
  rfl

/-- A link reset ends the response run (R157). -/
theorem State.nu_takeLinkReset_keeps (s : State) (wasUp : Bool) :
    (s.takeLinkReset wasUp).nu.mask = s.nu.mask ∧ (s.takeLinkReset wasUp).nu.run = 0 := by
  have stalls : ∀ (ps : List PortId) (c : PortId → Prop) [DecidablePred c] (u : NoticeUnit),
      (ps.foldl (fun (u : NoticeUnit) p => if c p then u.raise (.portStalled p) else u) u).mask = u.mask ∧
        (ps.foldl (fun (u : NoticeUnit) p => if c p then u.raise (.portStalled p) else u) u).run = u.run := by
    intro ps c _
    induction ps with
    | nil => exact fun u => ⟨rfl, rfl⟩
    | cons p ps ih =>
      intro u
      rw [List.foldl_cons]
      split
      · exact ⟨(ih _).1.trans (u.raise_mask _), (ih _).2.trans (u.raise_run _)⟩
      · exact ih u
  have tests : s.linkResetTests.nu.mask = s.nu.mask ∧ s.linkResetTests.nu.run = 0 := by
    rw [State.nu_linkResetTests s wasUp]
    obtain ⟨mask, run⟩ := stalls (List.finRange 4)
      (fun p => (s.port p).stallReport = false ∧ ∀ k, ((s.takeLinkReset wasUp).port p).slot k = .lingering)
      (if s.mc.mode = .run then { s.nu with queue := [], run := 0 }
        else { s.nu with queue := [], run := 0 }.raise (.modeChanged .run s.mc.mode .linkReset))
    refine ⟨mask.trans ?_, run.trans ?_⟩ <;> split <;> simp
  rw [State.nu_takeLinkReset]
  split <;> simp [tests]

/-- Settles O8: what each block does at a link reset, and the notices of it. -/
theorem linkResetTaken : Obligations.LinkResetTaken := by
  intro s off running
  refine ⟨s.validFrame.takeLinkReset s.li.up, ?_, ?_⟩
  · simp only [exec, execLinkReset, State.unlessReset_off off, if_neg running, Bool.false_eq_true, if_false]
  have blocks := s.validFrame.takeLinkReset_blocks s.li.up
  have field : ∀ {α : Type} (f : State → α), (∀ u v : State, f { v with nu := u.nu, ports := u.ports, mc := u.mc } = f v) →
      f (s.validFrame.takeLinkReset s.li.up) = f s.validFrame.linkResetBlocks := fun f free =>
    (free _ _).symm.trans (congrArg f blocks)
  have port := s.validFrame.linkResetPort_takeLinkReset s.li.up
  obtain ⟨mask, run⟩ := s.validFrame.nu_takeLinkReset_keeps s.li.up
  refine ⟨field State.requestQueue fun _ _ => rfl, field State.tags fun _ _ => rfl, field State.tracking fun _ _ => rfl,
    field State.mgmtQueue fun _ _ => rfl, field State.deferred fun _ _ => rfl, fun i => ?_, field State.li fun _ _ => rfl, ?_,
    field State.engineEnable fun _ _ => rfl, fun c => ?_, fun p k => ?_, fun p => ?_, fun p => (port p).report, fun stays p => ?_,
    fun stop p => ?_, ?_, mask, run, field State.managers fun _ _ => rfl, field State.boot fun _ _ => rfl,
    field State.cause fun _ _ => rfl⟩
  · rw [field (fun v => v.window i) fun _ _ => rfl, State.window_linkResetBlocks]
    rfl
  · rw [State.mc_takeLinkReset]
    rfl
  · rw [field (fun v => v.channel c) fun _ _ => rfl, State.channel_linkResetBlocks]
    rfl
  · rw [(port p).slots]
    show ((s.port p).slot k).linkReset = _
    cases (s.port p).slot k with
    | issued h cmd x => cases h <;> rfl
    | free => rfl
    | lingering => rfl
  · exact ⟨(port p).lock, (port p).config, (port p).counters, (port p).order, (port p).turn, (port p).request, (port p).pace,
      (port p).pulse⟩
  · have mode : s.validFrame.mc.mode ≠ .stop := stays
    rw [State.port_takeLinkReset, if_neg mode]
    exact ⟨rfl, rfl, rfl⟩
  · have mode : s.validFrame.mc.mode = .stop := stop
    rw [State.port_takeLinkReset, if_pos mode]
    exact ⟨rfl, rfl, (s.port p).holdTimer_modeLeavesStop⟩
  · rw [State.nu_takeLinkReset, State.nu_linkResetTests _ s.li.up]
    rfl

end Sys2Proof.Machine
end

section
/-! PROOFS. Intake of management commands (R159, R163, R175, R190): credit, the checks in their order, and the index words. -/

namespace Sys2Proof.Machine

/-! ## The path of a REQUEST (R159, R174, R175) -/

/-- How a management REQUEST is delivered: to the owning block of the command that it names, or, when it names none, to the intake checks
alone (R159). -/
inductive Managed (s : State) (f : MgmtFrame) : Option Nat → State → Prop
  | named (c : Command) (n : Nat) (act : Act) : Managed s f (some n) (s.manage c n f act)
  | unnamed : Managed s f none (s.receiveRequest .management f.malformed fun t => t.refuseMgmt f (t.unknownRefusal f))

/-- Every management command goes through the intake (R159). -/
theorem exec_managed {c : Instr} {f : MgmtFrame} {words : Option Nat} (h : managementFrame c = some (f, words)) (s : State) :
    ∃ t, exec c s = .next t ∧ Managed s f words t := by
  cases c <;> cases h
  case unknownCommand => exact ⟨_, rfl, .unnamed⟩
  all_goals exact ⟨_, rfl, .named _ _ _⟩

/-- A REQUEST of a pool is a data request or a management command (12.2). -/
theorem requestPool_cases {c : Instr} {pool : Pool} (h : requestPool c = some pool) :
    (pool = .data ∧ ∃ f, c = .dataRequest f) ∨ (pool = .management ∧ ∃ f words, managementFrame c = some (f, words)) := by
  cases c <;> cases h
  case dataRequest f => exact .inl ⟨rfl, f, rfl⟩
  all_goals exact .inr ⟨rfl, _, _, rfl⟩

/-- A REQUEST without credit is an overrun (R175). -/
theorem exec_overrun {c : Instr} {pool : Pool} {s : State} (request : requestPool c = some pool) (listening : s.resetn = false)
    (none : s.li.credit pool = 0) : exec c s = .next (s.receivedOverrun pool) := by
  rcases requestPool_cases request with ⟨rfl, f, rfl⟩ | ⟨rfl, f, words, frame⟩
  · exact congrArg Host.Outcome.next (State.receiveRequest_overrun s .data _ _ listening none)
  · obtain ⟨t, next, managed⟩ := exec_managed frame s
    rw [next]
    cases managed with
    | named c n act => exact congrArg Host.Outcome.next (State.receiveRequest_overrun s .management _ _ listening none)
    | unnamed => exact congrArg Host.Outcome.next (State.receiveRequest_overrun s .management _ _ listening none)

/-- The reason of the first intake check that fails (R159). -/
def State.intakeReason (s : State) (f : MgmtFrame) : Option Nat → Option Reason
  | some n => s.intakeRefusal f n
  | none => some (s.unknownRefusal f)

/-- A management REQUEST with credit that fails an intake check is refused, and nothing else changes (R159, R163). -/
theorem exec_intake_refused {c : Instr} {f : MgmtFrame} {words : Option Nat} {s : State} {r : Reason}
    (frame : managementFrame c = some (f, words)) (listening : s.resetn = false) (credit : 0 < s.li.mgmtCredit)
    (fails : s.intakeReason f words = some r) :
    exec c s = .next ((s.receivedMgmt f).responded (refusal f.requester f.tag .management r true)) := by
  obtain ⟨t, next, managed⟩ := exec_managed frame s
  rw [next]
  cases managed with
  | named c n act =>
    have reason : (s.receivedMgmt f).intakeRefusal f n = some r := fails
    rw [State.manage, State.receiveRequest_mgmt s f _ listening credit, State.intake, reason]
    rfl
  | unnamed =>
    have reason : (s.receivedMgmt f).unknownRefusal f = r := Option.some.inj fails
    rw [State.receiveRequest_mgmt s f _ listening credit, reason]
    rfl

/-- Settles O13: the credit test comes first, and then the intake checks in their order. -/
theorem intakeChecksInOrder : Obligations.IntakeChecksInOrder := by
  refine ⟨fun c pool s request listening none => ?_, fun c f words s frame listening credit => ?_⟩
  · refine exec_overrun request listening ?_
    rcases none with ⟨rfl, none⟩ | ⟨rfl, none⟩ <;> exact none
  · refine ⟨fun stranger => ?_, fun manager taken => ?_, fun manager fresh bad => ?_, fun manager fresh formed none => ?_⟩ <;>
      refine exec_intake_refused frame listening credit ?_
    · have stranger : s.isManager f.requester = false := stranger
      cases words <;> simp [State.intakeReason, State.intakeRefusal, State.unknownRefusal, stranger]
    · have manager : s.isManager f.requester = true := manager
      cases words <;> simp [State.intakeReason, State.intakeRefusal, State.unknownRefusal, manager, taken]
    · have manager : s.isManager f.requester = true := manager
      rcases bad with malformed | ⟨n, rfl, operands⟩
      · cases words <;> simp [State.intakeReason, State.intakeRefusal, State.unknownRefusal, manager, fresh, malformed]
      · simp [State.intakeReason, State.intakeRefusal, manager, fresh, operands]
    · have manager : s.isManager f.requester = true := manager
      simp [none, State.intakeReason, State.unknownRefusal, manager, fresh, formed]

/-! ## Index words (12.3, R190) -/

theorem indexBelow_of_lt {n : Nat} {w : Word} (h : (field w 0 8).toNat < n) : indexBelow n w = some ⟨_, h⟩ := indexBelow_some _ rfl

theorem not_indexOnly {w : Word} (h : 256 ≤ w.toNat) : indexOnly w = false := by
  rw [← Bool.not_eq_true, indexOnly_iff]
  omega

/-- What a block does with an index word: it refuses BAD_INDEX and RANGE, in this order, and otherwise acts (R190; log 7). -/
def ChecksIndex (act : Act) (limit : Nat) : Prop :=
  ∀ f s, (limit ≤ (field (f.word 0) 0 8).toNat → act f s = (s, .refused .badIndex)) ∧
    ((field (f.word 0) 0 8).toNat < limit → 256 ≤ (f.word 0).toNat → act f s = (s, .refused .range))

theorem onPort_checksIndex (act : MgmtFrame → State → PortId → State × Answer) : ChecksIndex (fun f s => onPort f s (act f s)) 4 :=
  fun f s => ⟨fun none => by simp [onPort, indexBelow_none none, unchanged],
    fun names wide => by simp [onPort, indexBelow_of_lt names, not_indexOnly wide, unchanged]⟩

theorem onChannel_checksIndex (act : MgmtFrame → State → ChannelId → State × Answer) :
    ChecksIndex (fun f s => onChannel f s (act f s)) 2 :=
  fun f s => ⟨fun none => by simp [onChannel, indexBelow_none none, unchanged],
    fun names wide => by simp [onChannel, indexBelow_of_lt names, not_indexOnly wide, unchanged]⟩

theorem windowReadAct_checksIndex : ChecksIndex windowReadAct 32 :=
  fun f s => ⟨fun none => by simp [windowReadAct, indexBelow_none none, unchanged],
    fun names wide => by simp [windowReadAct, indexBelow_of_lt names, not_indexOnly wide, unchanged]⟩

theorem trackReadAct_checksIndex : ChecksIndex trackReadAct 16 :=
  fun f s => ⟨fun none => by simp [trackReadAct, indexBelow_none none, unchanged],
    fun names wide => by simp [trackReadAct, indexBelow_of_lt names, not_indexOnly wide, unchanged]⟩

/-- A command whose first operand word is an index word goes to a block that checks it (12.3). -/
theorem exec_indexCommand {c : Instr} {f : MgmtFrame} {m : Command} {words limit : Nat}
    (h : indexCommand c = some (f, m, words, limit)) (s : State) :
    ∃ act, ChecksIndex act limit ∧ exec c s = .next (s.manage m words f act) := by
  cases c <;> cases h
  case windowRead => exact ⟨_, windowReadAct_checksIndex, rfl⟩
  case portConfigure => exact ⟨_, onPort_checksIndex _, rfl⟩
  case portEnable => exact ⟨_, onPort_checksIndex _, rfl⟩
  case portDisable => exact ⟨_, onPort_checksIndex _, rfl⟩
  case portReset => exact ⟨_, onPort_checksIndex _, rfl⟩
  case portStatus => exact ⟨_, onPort_checksIndex _, rfl⟩
  case channelAbort => exact ⟨_, onChannel_checksIndex _, rfl⟩
  case channelResume => exact ⟨_, onChannel_checksIndex _, rfl⟩
  case channelClear => exact ⟨_, onChannel_checksIndex _, rfl⟩
  case channelStatus => exact ⟨_, onChannel_checksIndex _, rfl⟩
  case trackRead => exact ⟨_, trackReadAct_checksIndex, rfl⟩

/-- Settles O14: the index is checked before the bits that are marked zero, and both before anything else. -/
theorem indexRefusals : Obligations.IndexRefusals := by
  intro c f m words limit s index accepted
  obtain ⟨act, checks, next⟩ := exec_indexCommand index s
  rw [next]
  obtain ⟨badIndex, range⟩ := checks f (s.answerDeferred f m)
  exact ⟨fun none => congrArg _ (State.manage_refused s m words f act _ accepted (badIndex none)),
    fun names wide => congrArg _ (State.manage_refused s m words f act _ accepted (range names wide))⟩

end Sys2Proof.Machine
end

section
/-! PROOFS. Data requests (chapters 1 and 2): lookup, admission, the wake, translation and dispatch. -/

namespace Sys2Proof.Machine

/-! ## Lookup (R7, R8) -/

/-- Lookup in the one window that contains the address (R8). -/
theorem State.lookup_window {s : State} {r : Requester} {k : ReqKind} {a : Word} {len : Nat} {i : WindowIdx}
    (found : s.windowAt a.toNat = some i) : s.lookup r k a len =
      if (s.window i).contents.past ≤ a.toNat + 4 * len - 1 then .error .spans
      else if (s.window i).contents.allows r = false then .error .denied
      else if (s.window i).contents.permits k = false then .error .denied
      else if (s.port (s.window i).contents.port).state = .disabled then .error .portOff
      else .ok i := by
  simp [State.lookup, found]

/-- Settles O15: the window that contains the address, and the checks on it in their order. -/
theorem lookupInOrder : Obligations.LookupInOrder := by
  refine ⟨Window.containsAddr_iff, fun s r k a len _ => ⟨fun outside => ?_, fun i used first past only => ?_⟩⟩
  · simp [State.lookup, State.windowAt_none_iff.2 outside]
  · rw [State.lookup_window (State.windowAt_some ((Window.containsAddr_iff _ _).2 ⟨used, first, past⟩) only)]
    cases k <;> rfl

/-! ## Admission (R31, R32, R34, R36, R37) -/

/-- A request that passes the checks (R31, R36). -/
theorem State.admission_of_lookup {s : State} {f : DataFrame} {b : ReqBody} (fresh : f.pair ∉ s.tags) (body : f.body? = some b) :
    s.admission f = (s.lookup f.requester b.kind f.address f.length.toNat).map fun i => (b, i) := by
  simp only [State.admission, body, List.contains_eq_mem, fresh, decide_false, Bool.false_eq_true, if_false]
  cases s.lookup f.requester b.kind f.address f.length.toNat <;> rfl

theorem State.admission_tagInUse {s : State} {f : DataFrame} (taken : f.pair ∈ s.tags) : s.admission f = .error .tagInUse := by
  simp [State.admission, taken]

/-- Binding, field by field (R36, R48). -/
theorem State.bind_eq (s : State) (f : DataFrame) (b : ReqBody) (i : WindowIdx) : s.bind f b i =
    { s with
      tags := s.tags ++ [f.pair]
      windows := s.windows.set i { s.window i with hitCount := (s.window i).hitCount + 1 }
      requestQueue := s.requestQueue ++
        [{ requester := f.requester, tag := f.tag, body := b, window := i, address := f.address, length := f.length.toNat }]
      mc := { s.mc with queueEmpty := false } } := by
  have waits : (s.requestQueue ++ [queueEntryOf f b i]).isEmpty = false := by simp
  simp only [State.bind, State.enqueue, State.reportQueue, State.setWindow_requestQueue, State.enterTag, waits]
  rfl

theorem State.admitRequest_run_bound {s : State} {f : DataFrame} {b : ReqBody} {i : WindowIdx} (run : s.mc.mode = .run)
    (passes : s.admission f = .ok (b, i)) : s.admitRequest f = (s.bind f b i).followUp := by
  simp only [State.admitRequest, run, State.admitInRun, State.bindOrRefuse, passes]

/-- Settles O17: the mode check, and in RUN the checks of admission. -/
theorem dataRequestAdmitted : Obligations.DataRequestAdmitted := by
  intro f s listening credit
  have received := exec_dataRequest_received f listening credit
  refine ⟨fun b i run fresh body found => ?_, fun barred => ?_, fun run taken => ?_, fun b r run fresh body missed => ?_⟩
  · have accepted : (s.receivedData f).admission f = .ok (b, i) := by
      rw [State.admission_of_lookup (s := s.receivedData f) fresh body]
      exact congrArg (Except.map _) found
    rw [received, State.admitRequest_run_bound (s := s.receivedData f) run accepted, State.bind_eq]
    rfl
  · rw [received, State.admitRequest]
    have refused : (s.receivedData f).refuseData f .mode = (s.receivedData f).responded (refusal f.requester f.tag .data .mode true) :=
      rfl
    rcases barred with mode | mode | ⟨mode, wake⟩
    · have mode : (s.receivedData f).mc.mode = .quiescing := mode
      simp only [mode, refused]
    · have mode : (s.receivedData f).mc.mode = .quiet := mode
      simp only [mode, refused]
    · have mode : (s.receivedData f).mc.mode = .stop := mode
      have wake : (s.receivedData f).mc.wakeOnRequest = false := wake
      simp only [mode, wake, refused, Bool.false_eq_true, if_false]
  · rw [received, State.admitRequest_run_refused (s := s.receivedData f) run (State.admission_tagInUse taken)]
  · have missed : (s.receivedData f).admission f = .error r := by
      rw [State.admission_of_lookup (s := s.receivedData f) fresh body]
      exact congrArg (Except.map _) missed
    rw [received, State.admitRequest_run_refused (s := s.receivedData f) run missed]

/-! ## The wake (R91, R102, R141) -/

/-- A port when the mode leaves STOP (R91, R102). -/
theorem Port.modeLeavesStop_eq (q : Port) : q.modeLeavesStop =
    if q.state = .stopped then
      { q with
        state := .active
        upkeep := { q.upkeep with
          pending := q.upkeep.pending || q.config.interval != 0
          timer := if q.config.interval = 0 then none
            else some { left := Config.intervalTenths q.config.interval / 10, remainder := Config.intervalTenths q.config.interval % 10 } } }
    else if q.state = .settling .stopped then { q with state := .active }
    else q := by
  unfold Port.modeLeavesStop
  split
  next settling => simp [settling]
  next stopped => simp [stopped, freshInterval, IntervalTimer.next]
  next settling stopped => rw [if_neg stopped, if_neg settling]

theorem State.admitRequest_wake_bound {s : State} {f : DataFrame} {b : ReqBody} {i : WindowIdx} (stop : s.mc.mode = .stop)
    (wakes : s.mc.wakeOnRequest = true) (passes : (s.leaveStop .wake).admission f = .ok (b, i)) :
    s.admitRequest f = ((s.leaveStop .wake).bind f b i).followUp := by
  simp only [State.admitRequest, stop, wakes, if_true, State.bindOrRefuse, passes]

/-- A port is DISABLED after a wake exactly when it was (R91). -/
theorem Port.modeLeavesStop_disabled (q : Port) : q.modeLeavesStop.state = .disabled ↔ q.state = .disabled := by
  rw [Port.modeLeavesStop_eq]
  split
  next stopped => simp [stopped]
  · split
    next settling => simp [settling]
    · rfl

/-- Lookup reads of a port whether it is DISABLED (R8). -/
theorem State.lookup_congr {s t : State} (window : t.window = s.window)
    (disabled : ∀ p, (t.port p).state = .disabled ↔ (s.port p).state = .disabled) (r : Requester) (k : ReqKind) (a : Word) (len : Nat) :
    t.lookup r k a len = s.lookup r k a len := by
  have same : t.windowAt a.toNat = s.windowAt a.toNat := by simp only [State.windowAt, window]
  rcases found : s.windowAt a.toNat with _ | i
  · simp [State.lookup, same, found]
  · rw [State.lookup_window found, State.lookup_window (same.trans found), window]
    simp only [disabled]

/-- Settles O18: the mode leaves STOP first, and then the checks of admission follow. -/
theorem dataRequestWakes : Obligations.DataRequestWakes := by
  intro f s listening credit stop wakes
  have received := exec_dataRequest_received f listening credit
  have port : ∀ p, ((s.receivedData f).leaveStop .wake).port p = (s.port p).modeLeavesStop := fun p => by
    rw [State.leaveStop, State.port_mapPorts]
    rfl
  have lookup : ∀ r k a len, ((s.receivedData f).leaveStop .wake).lookup r k a len = s.lookup r k a len :=
    State.lookup_congr rfl fun p => by rw [port, Port.modeLeavesStop_disabled]
  have refused : ∀ {r}, ((s.receivedData f).leaveStop .wake).admission f = .error r → exec (.dataRequest f) s =
      .next (((s.receivedData f).leaveStop .wake).responded (refusal f.requester f.tag .data r true)).followUp := fun fails => by
    rw [received, State.admitRequest_wake_refused (s := s.receivedData f) stop wakes fails]
  refine ⟨(s.receivedData f).leaveStop .wake, ?_, fun p => ?_, fun taken => refused (State.admission_tagInUse (by simpa using taken)),
    fun fresh bad => refused (State.admission_format (by simpa using fresh) bad), fun b fresh body => ⟨fun r missed => refused ?_,
    fun i found => ?_⟩⟩
  · have mode : (s.receivedData f).mc.mode = .stop := stop
    rw [State.leaveStop, State.changeMode_from mode]
    rfl
  · rw [port, Port.modeLeavesStop_eq]
  · rw [State.admission_of_lookup (by simpa using fresh) body, lookup, missed]
    rfl
  · have accepted : ((s.receivedData f).leaveStop .wake).admission f = .ok (b, i) := by
      rw [State.admission_of_lookup (by simpa using fresh) body, lookup, found]
      rfl
    rw [received, State.admitRequest_wake_bound (s := s.receivedData f) stop wakes accepted, State.bind_eq]
    rfl

/-! ## Translation (R2, R3, R44) -/

/-- Settles O19: the offset in the window is below 10000000H, so that neither addition wraps. -/
theorem translationStaysInTheSegment : Obligations.TranslationStaysInTheSegment := by
  intro c a valid first past
  obtain ⟨-, logical, -, -, -, physical⟩ := (Contents.valid_iff c).1 valid
  have offset : (a - c.logicalBase).toNat = a.toNat - c.logicalBase.toNat := BitVec.toNat_sub_of_le first
  have small : ((a - c.logicalBase).setWidth 28).toNat = a.toNat - c.logicalBase.toNat := by
    rw [BitVec.toNat_setWidth, offset, Nat.mod_eq_of_lt (by omega)]
  have translated : (c.translate a).toNat = c.physicalBase.toNat + (a.toNat - c.logicalBase.toNat) := by
    rw [Contents.translate, BitVec.toNat_add, small, Nat.mod_eq_of_lt (by omega)]
  refine ⟨translated, by omega, physical, ?_⟩
  have back : ((c.translate a - c.physicalBase).setWidth 32).toNat = a.toNat - c.logicalBase.toNat := by
    have le : c.physicalBase ≤ c.translate a := by
      rw [BitVec.le_def]
      omega
    rw [BitVec.toNat_setWidth, BitVec.toNat_sub_of_le le, translated, Nat.mod_eq_of_lt (by omega)]
    omega
  refine BitVec.eq_of_toNat_eq ?_
  rw [Contents.untranslate, BitVec.toNat_add, back, Nat.mod_eq_of_lt (by omega)]
  omega

/-! ## Dispatch (R25, R41 to R45) -/

/-- The port states that bar dispatch (R41). -/
theorem PortState.barsDispatch_iff (x : PortState) : x.barsDispatch = true ↔ x = .held ∨ x = .settling .held ∨ x = .resetting := by
  cases x with
  | settling y => cases y <;> simp [PortState.barsDispatch]
  | _ => simp [PortState.barsDispatch]

/-- The four conditions of dispatch (R41). -/
theorem State.dispatchable_iff (s : State) (e : QueueEntry) : s.dispatchable e = true ↔
    (s.window e.window).state = .live ∧ (∃ i, ∀ x ∈ s.tracking, x.index ≠ i) ∧
      (s.port (s.window e.window).contents.port).state ≠ .held ∧
      (s.port (s.window e.window).contents.port).state ≠ .settling .held ∧
      (s.port (s.window e.window).contents.port).state ≠ .resetting ∧
      ((s.window e.window).contents.strict = true → (s.window e.window).useCount = 0) := by
  have bars := PortState.barsDispatch_iff (s.port (s.window e.window).contents.port).state
  have strict : (!(s.window e.window).contents.strict || (s.window e.window).useCount == 0) = true ↔
      ((s.window e.window).contents.strict = true → (s.window e.window).useCount = 0) := by
    cases (s.window e.window).contents.strict <;> simp
  simp only [State.dispatchable, Bool.and_eq_true, beq_iff_eq, State.freeIndex_isSome, Bool.not_eq_true', ← Bool.not_eq_true, bars,
    strict, not_or, and_assoc]

theorem QueueEntry.passes_iff (e : QueueEntry) (c : Contents) (disabled : Bool) : e.passes c disabled = true ↔
    c.logicalBase.toNat ≤ e.address.toNat ∧ e.address.toNat + 4 * e.length - 1 < c.past ∧ c.permits e.body.kind = true ∧
      c.allows e.requester = true ∧ disabled = false := by
  simp [QueueEntry.passes, and_assoc]

/-- The free tracking entry with the lowest index (R52). -/
theorem State.freeIndex_lowest {s : State} {i : TrackIdx} (free : ∀ x ∈ s.tracking, x.index ≠ i)
    (lowest : ∀ j, j < i → ∃ x ∈ s.tracking, x.index = j) : s.freeIndex? = some i := by
  have isFree : (!s.tracking.any fun e => e.index == i) = true := by simpa using free
  cases found : s.freeIndex? with
  | none =>
    have none := List.find?_eq_none.1 found i (List.mem_finRange i)
    exact absurd isFree none
  | some j =>
    have fresh := State.freeIndex_fresh found
    have notBelow : ¬ j < i := fun below => by
      obtain ⟨x, hx, index⟩ := lowest j below
      exact fresh x hx index
    have notAbove : ¬ i < j := fun above => by
      obtain ⟨as, bs, order, before⟩ := (List.find?_eq_some_iff_append.1 found).2
      have sorted : (List.finRange 16).Pairwise (· < ·) := List.pairwise_lt_finRange 16
      have mem : i ∈ as ++ j :: bs := order ▸ List.mem_finRange i
      rw [order] at sorted
      rcases List.mem_append.1 mem with early | late
      · exact absurd isFree (by simpa using before i early)
      · rcases List.mem_cons.1 late with same | later
        · exact absurd above (by simp [same])
        · exact absurd ((List.pairwise_cons.1 (List.pairwise_append.1 sorted).2.1).1 i later) (lt_asymm above)
    exact congrArg some (le_antisymm (not_lt.1 notAbove) (not_lt.1 notBelow))

/-- The oldest dispatchable entry stands behind entries that are not (R42). -/
theorem State.oldestDispatchable_of {s : State} {pre post : List QueueEntry} {e : QueueEntry}
    (queue : s.requestQueue = pre ++ e :: post) (before : ∀ x ∈ pre, s.dispatchable x = false) (dispatchable : s.dispatchable e = true) :
    s.oldestDispatchable = some e := by
  rw [State.oldestDispatchable, queue, List.find?_append, List.find?_eq_none.2 fun x hx => by simp [before x hx],
    List.find?_cons_of_pos dispatchable]
  rfl

/-- DISPATCH as a command dispatches the oldest entry, if one is dispatchable (R42). -/
theorem exec_dispatch (s : State) : exec .dispatch s =
    .next (if s.oldestDispatchable = none then s else s.dispatchOne.followUp) := by
  by_cases none : s.oldestDispatchable = none
  · simp [exec, execDispatch, none]
  · obtain ⟨e, oldest⟩ := Option.ne_none_iff_exists'.1 none
    obtain ⟨-, -, i, free⟩ := State.oldestDispatchable_some oldest
    simp [exec, execDispatch, State.dispatchOne, oldest, free]

/-- The dispatch of an entry that stands behind others, field by field (R43 to R45). -/
theorem State.dispatchEntry_eq {s : State} {pre post : List QueueEntry} {e : QueueEntry} (i : TrackIdx)
    (queue : s.requestQueue = pre ++ e :: post) (fresh : e ∉ pre) : s.dispatchEntry e i =
      { s with
        requestQueue := pre ++ post
        tracking := s.tracking ++ [e.track i (s.window e.window).contents]
        windows := s.windows.set e.window { s.window e.window with useCount := (s.window e.window).useCount + 1 }
        mc := { s.mc with queueEmpty := (pre ++ post).isEmpty, trackingEmpty := false }
        li := if e.body.kind = .write ∧ (s.window e.window).contents.posted = true then
            { s.li with responses := s.li.responses ++ [okResponse e.requester e.tag .data []] }
          else s.li } := by
  have left : s.requestQueue.erase e = pre ++ post := by
    rw [queue, List.erase_append_right _ fresh, List.erase_cons_head]
  have tracked : (s.tracking ++ [e.track i (s.window e.window).contents]).isEmpty = false := by simp
  have posted : (e.track i (s.window e.window).contents).posted = true ↔
      e.body.kind = .write ∧ (s.window e.window).contents.posted = true := by simp [QueueEntry.track]
  simp only [State.dispatchEntry, left, posted, State.reportQueue, State.reportTracking, State.setWindow, tracked]
  split <;> rfl

/-- Settles O20: the conditions, the oldest entry and its free tracking entry, and the dispatch itself. -/
theorem dispatchOfTheOldest : Obligations.DispatchOfTheOldest := by
  refine ⟨State.dispatchable_iff, fun e c disabled _ => ?_, fun s none => ?_, fun s t pre post e i queue before dispatchable free lowest ht => ?_⟩
  · rw [QueueEntry.passes_iff]
    cases e.body <;> exact Iff.rfl
  · have none := State.oldestDispatchable_none.2 none
    exact ⟨State.dispatchAll_none none, by rw [exec_dispatch, if_pos none]⟩
  · have oldest := State.oldestDispatchable_of queue before dispatchable
    have fresh : e ∉ pre := fun mem => by simp [before e mem] at dispatchable
    have one : s.dispatchOne = t := by
      rw [State.dispatchOne_some oldest (State.freeIndex_lowest free lowest), State.dispatchEntry_eq i queue fresh, ht]
      cases body : e.body <;> simp only [QueueEntry.track, body] <;> rfl
    have some : s.oldestDispatchable ≠ none := by simp [oldest]
    exact ⟨by rw [State.dispatchAll_step some, one], by rw [exec_dispatch, if_neg some, one]⟩

end Sys2Proof.Machine
end

section
/-! PROOFS. Window commands (chapter 1): WINDOW LOAD, and WINDOW REPLACE and WINDOW CLOSE at once, through a drain, and refused. -/

namespace Sys2Proof.Machine

/-! ## Window records and reserved ranges (R2, R3, R10, 12.4) -/

/-- The fields of a window record (12.4). -/
theorem windowRecordContents_iff (w0 w1 w2 : Word) (c : Contents) : c = windowRecordContents w0 w1 w2 ↔
    c.logicalBase = w0 &&& 0xFFFFF000 ∧ c.physicalBase.toNat = (field w1 16 16).toNat * 0x1000 ∧
      c.size = (field w1 0 16).toNat + 1 ∧ c.requesters = field w2 0 8 ∧ c.mayRead = bit w2 8 ∧ c.mayWrite = bit w2 9 ∧
      c.maySwap = bit w2 10 ∧ c.port.val = (field w2 12 2).toNat ∧ c.posted = bit w2 16 ∧ c.strict = bit w2 17 := by
  constructor
  · rintro rfl
    exact ⟨rfl, granules_toNat _, rfl, rfl, rfl, rfl, rfl, rfl, rfl, rfl⟩
  · rintro ⟨base, physical, size, set, read, write, swap, port, posted, strict⟩
    have physical : c.physicalBase = (field w1 16 16).setWidth 28 <<< 12 :=
      BitVec.eq_of_toNat_eq (physical.trans (granules_toNat _).symm)
    have port : c.port = portField w2 12 := Fin.ext port
    cases c
    simp only at base physical size set read write swap port posted strict
    simp only [windowRecordContents, base, physical, size, set, read, write, swap, port, posted, strict]

/-- The bits that a window record marks zero (12.4). -/
theorem windowRecordZeros_iff (w0 w2 w3 : Word) : windowRecordZeros w0 w2 w3 = true ↔
    w0 &&& 0x00000F00 = 0 ∧ w2 &&& 0xFFFCC800 = 0 ∧ w3 = 0 := by
  simp [windowRecordZeros, zeroUnder, and_assoc]

/-- The contents of a window record is valid when its ranges end inside their spaces: the bases are aligned and the size is in range by
the layout (R3, 12.4). -/
theorem windowRecordContents_valid (w0 w1 w2 : Word) : (windowRecordContents w0 w1 w2).valid = true ↔
    (windowRecordContents w0 w1 w2).logicalBase.toNat + (windowRecordContents w0 w1 w2).size * 0x1000 ≤ 0x100000000 ∧
      (windowRecordContents w0 w1 w2).physicalBase.toNat + (windowRecordContents w0 w1 w2).size * 0x1000 ≤ 0x10000000 := by
  have aligned : (windowRecordContents w0 w1 w2).logicalBase.toNat % 0x1000 = 0 := base_aligned w0
  have physical : (windowRecordContents w0 w1 w2).physicalBase.toNat = (field w1 16 16).toNat * 0x1000 := granules_toNat _
  have size : (windowRecordContents w0 w1 w2).size = (field w1 0 16).toNat + 1 := rfl
  have bound := (field w1 0 16).isLt
  rw [Contents.valid_iff]
  omega

/-- The ranges that a window reserves (R2, R10). -/
theorem Window.mem_reserved_iff (w : Window) (r : Nat × Nat) : r ∈ w.reserved ↔
    (w.state ≠ .free ∧ r = w.contents.range) ∨
      (w.state = .draining ∧ ∃ c l, w.pending = some ⟨.replacement c, l⟩ ∧ r = c.range) := by
  unfold Window.reserved Window.inUse Window.pendingRanges
  cases state : w.state with
  | free => simp
  | live => simp
  | draining => rcases pending : w.pending with _ | ⟨_ | c, l⟩ <;> simp

/-! ## The window that the index names (R14) -/

/-- A window command in its owning block: BAD_INDEX, or what it does to the window named (R14). -/
def onWindow (f : MgmtFrame) (s : State) (act : WindowIdx → State × Answer) : State × Answer :=
  match indexBelow 32 (f.word 0) with
  | none => (s, .refused .badIndex)
  | some i => act i

theorem onWindow_badIndex {f : MgmtFrame} {s : State} {act : WindowIdx → State × Answer} (names : 32 ≤ (field (f.word 0) 0 8).toNat) :
    onWindow f s act = (s, .refused .badIndex) := by rw [onWindow, indexBelow_none names]

theorem onWindow_window {f : MgmtFrame} {s : State} {act : WindowIdx → State × Answer} {i : WindowIdx}
    (names : (field (f.word 0) 0 8).toNat = i.val) : onWindow f s act = act i := by rw [onWindow, indexBelow_some i names]

theorem windowLoadAct_eq (f : MgmtFrame) (s : State) : windowLoadAct f s = onWindow f s (s.loadWindow f) := by
  unfold windowLoadAct onWindow
  cases indexBelow 32 (f.word 0) <;> rfl

theorem windowReplaceAct_eq (f : MgmtFrame) (s : State) : windowReplaceAct f s = onWindow f s (s.replaceWindow f) := by
  unfold windowReplaceAct onWindow
  cases indexBelow 32 (f.word 0) <;> rfl

theorem windowCloseAct_eq (f : MgmtFrame) (s : State) : windowCloseAct f s = onWindow f s (s.closeWindow f) := by
  unfold windowCloseAct onWindow
  cases indexBelow 32 (f.word 0) <;> rfl

/-! ## WINDOW LOAD (R15) -/

theorem State.loadWindow_notFree {s : State} {f : MgmtFrame} {i : WindowIdx} (used : (s.window i).state ≠ .free) :
    s.loadWindow f i = (s, .refused .notFree) := by
  simp [State.loadWindow, Window.inUse, used, unchanged]

theorem State.loadWindow_range {s : State} {f : MgmtFrame} {i : WindowIdx} (free : (s.window i).state = .free)
    (bad : windowRecord (f.word 0) (f.word 1) (f.word 2) (f.word 3) = none) : s.loadWindow f i = (s, .refused .range) := by
  simp [State.loadWindow, Window.inUse, free, bad, unchanged]

theorem State.loadWindow_record {s : State} {f : MgmtFrame} {i : WindowIdx} {c : Contents} (free : (s.window i).state = .free)
    (record : windowRecord (f.word 0) (f.word 1) (f.word 2) (f.word 3) = some c) : s.loadWindow f i =
      if s.overlaps c none then (s, .refused .overlap) else (s.setWindow i (.loaded c), .ok []) := by
  simp [State.loadWindow, Window.inUse, free, record, unchanged]

/-- A WINDOW LOAD that its block refuses (R15, R163). -/
theorem exec_windowLoad_refused {s : State} {f : MgmtFrame} {r : Reason} (accepted : CommandAccepted s f 4)
    (act : windowLoadAct f (s.answerDeferred f .windowLoad) = (s.answerDeferred f .windowLoad, .refused r)) :
    exec (.windowLoad f) s = .next (s.answeredRefused f .windowLoad r) :=
  congrArg Host.Outcome.next (State.manage_refused s .windowLoad 4 f _ r accepted act)

/-- Settles O21: the record is read field by field, and the checks are made in their order before the window becomes LIVE. -/
theorem windowLoad : Obligations.WindowLoad := by
  refine ⟨Contents.valid_iff, fun w0 w1 w2 w3 c => ?_, Window.mem_reserved_iff, fun _ => rfl, fun a b => by simp [rangesMeet],
    fun f s accepted => ⟨fun names => ?_, fun i names => ⟨fun used => ?_, fun free bad => ?_, fun c free record meets => ?_,
      fun c free record apart => ?_⟩⟩⟩
  · rw [windowRecord_iff, windowRecordZeros_iff]
    constructor
    · rintro ⟨⟨zero0, zero2, zero3⟩, rfl, valid⟩
      obtain ⟨base, physical, size, set, read, write, swap, port, posted, strict⟩ := (windowRecordContents_iff w0 w1 w2 _).1 rfl
      obtain ⟨logical, segment⟩ := (windowRecordContents_valid w0 w1 w2).1 valid
      exact ⟨zero0, zero2, zero3, base, physical, size, set, read, write, swap, port, posted, strict, logical, segment⟩
    · rintro ⟨zero0, zero2, zero3, base, physical, size, set, read, write, swap, port, posted, strict, logical, segment⟩
      obtain rfl := (windowRecordContents_iff w0 w1 w2 c).2
        ⟨base, physical, size, set, read, write, swap, port, posted, strict⟩
      exact ⟨⟨zero0, zero2, zero3⟩, rfl, (windowRecordContents_valid w0 w1 w2).2 ⟨logical, segment⟩⟩
  · exact exec_windowLoad_refused accepted (by rw [windowLoadAct_eq, onWindow_badIndex names])
  · exact exec_windowLoad_refused accepted
      (by rw [windowLoadAct_eq, onWindow_window names, State.loadWindow_notFree (by simpa using used)])
  · exact exec_windowLoad_refused accepted
      (by rw [windowLoadAct_eq, onWindow_window names, State.loadWindow_range (by simpa using free) bad])
  · have overlaps : s.overlaps c none = true := by
      rw [State.overlaps_iff]
      obtain ⟨j, meet⟩ := meets
      exact ⟨j, nofun, meet⟩
    exact exec_windowLoad_refused accepted (by
      rw [windowLoadAct_eq, onWindow_window names, State.loadWindow_record (by simpa using free) record,
        State.overlaps_answerDeferred, if_pos overlaps])
  · have overlaps : s.overlaps c none = false := (State.overlaps_false s c none).2 fun j _ => apart j
    have act : windowLoadAct f (s.answerDeferred f .windowLoad) =
        ((s.answerDeferred f .windowLoad).setWindow i (.loaded c), .ok []) := by
      rw [windowLoadAct_eq, onWindow_window names, State.loadWindow_record (by simpa using free) record,
        State.overlaps_answerDeferred, if_neg (by simp [overlaps])]
    exact congrArg Host.Outcome.next (State.manage_ok s _ .windowLoad 4 f _ [] accepted act rfl)

/-! ## WINDOW REPLACE and WINDOW CLOSE: the checks (R16, R19) -/

/-- The operands of WINDOW REPLACE: the record, and a drain limit of 1 to 255 with the bits above it zero (R3, R16, R190). -/
theorem replaceOperands_some {f : MgmtFrame} {c : Contents} (record : windowRecord (f.word 0) (f.word 1) (f.word 2) (f.word 3) = some c)
    (limit : f.word 4 ≠ 0) (small : (f.word 4).toNat ≤ 255) : replaceOperands f = some (c, (f.word 4).setWidth 8) := by
  have only : indexOnly (f.word 4) = true := indexOnly_iff.2 (by omega)
  have low : field (f.word 4) 0 8 = (f.word 4).setWidth 8 := BitVec.eq_of_toNat_eq (by simp [field, BitVec.extractLsb'_toNat])
  have nonzero : (f.word 4).setWidth 8 ≠ 0 := fun zero => limit (by bv_omega)
  simp only [replaceOperands, record, only, drainLimit, low, nonzero, if_false, if_true]

theorem replaceOperands_none {f : MgmtFrame}
    (bad : windowRecord (f.word 0) (f.word 1) (f.word 2) (f.word 3) = none ∨ f.word 4 = 0 ∨ 255 < (f.word 4).toNat) :
    replaceOperands f = none := by
  unfold replaceOperands
  split
  next c d record limit =>
    rcases bad with bad | zero | wide
    · cases record.symm.trans bad
    · rw [zero] at limit
      cases limit
    · rw [if_neg (by rw [indexOnly_iff]; omega)]
  · rfl

/-- The operand of WINDOW CLOSE: a drain limit with the bits above it zero (R3, R19, R190). -/
theorem closeLimit_eq (w : Word) : closeLimit w = if w.toNat < 0x10000 ∧ field w 8 8 ≠ 0 then some (field w 8 8) else none := by
  have high : zeroUnder w 0xFFFF0000 = true ↔ w.toNat < 0x10000 := zeroUnder_iff 16 _ (by decide)
  unfold closeLimit drainLimit
  by_cases low : w.toNat < 0x10000
  · rw [if_pos (high.2 low)]
    by_cases zero : field w 8 8 = 0 <;> simp [zero, low]
  · rw [if_neg (mt high.1 low), if_neg (fun both => low both.1)]

/-- WINDOW REPLACE and WINDOW CLOSE of a FREE window (R16, R19). -/
theorem State.changeWindow_notLive {s : State} {f : MgmtFrame} {i : WindowIdx} (free : (s.window i).state = .free) :
    s.replaceWindow f i = (s, .refused .notLive) ∧ s.closeWindow f i = (s, .refused .notLive) := by
  simp [State.replaceWindow, State.closeWindow, free, unchanged]

/-- WINDOW REPLACE and WINDOW CLOSE while a drain goes on (R16, R19). -/
theorem State.changeWindow_busy {s : State} {f : MgmtFrame} {i : WindowIdx}
    (busy : (s.window i).state = .draining ∨ ((s.window i).state = .live ∧ s.deferred ≠ none)) :
    s.replaceWindow f i = (s, .refused .busy) ∧ s.closeWindow f i = (s, .refused .busy) := by
  rcases busy with draining | ⟨live, deferred⟩
  · simp [State.replaceWindow, State.closeWindow, draining, unchanged]
  · simp [State.replaceWindow, State.closeWindow, live, deferred, unchanged]

/-- WINDOW REPLACE of a LIVE window with no deferred operation (R16 to R18). -/
theorem State.replaceWindow_live {s : State} {f : MgmtFrame} {i : WindowIdx} (live : (s.window i).state = .live)
    (idle : s.deferred = none) : s.replaceWindow f i =
      match replaceOperands f with
      | none => (s, .refused .range)
      | some (c, d) =>
        if s.overlaps c (some i) then (s, .refused .overlap)
        else if (s.window i).useCount = 0 then (s.installNow i c, .done)
        else (s.startDrain f i (.replacement c) d, .deferred) := by
  simp only [State.replaceWindow, live, idle, reduceCtorEq, if_false, or_self, ne_eq, not_true_eq_false]
  cases replaceOperands f <;> rfl

/-- WINDOW CLOSE of a LIVE window with no deferred operation (R19, R20). -/
theorem State.closeWindow_live {s : State} {f : MgmtFrame} {i : WindowIdx} (live : (s.window i).state = .live)
    (idle : s.deferred = none) : s.closeWindow f i =
      match closeLimit (f.word 0) with
      | none => (s, .refused .range)
      | some d => if (s.window i).useCount = 0 then (s.closeNow i, .done) else (s.startDrain f i .close d, .deferred) := by
  simp only [State.closeWindow, live, idle, reduceCtorEq, if_false, or_self, ne_eq, not_true_eq_false]
  cases closeLimit (f.word 0) <;> rfl

/-- The overlap check of WINDOW REPLACE skips the window itself (R10, R16). -/
theorem State.overlaps_skip {s : State} {c : Contents} {i : WindowIdx} : s.overlaps c (some i) = true ↔
    ∃ j, j ≠ i ∧ ∃ r ∈ (s.window j).reserved, rangesMeet c.range r = true := by
  simp only [State.overlaps_iff, ne_eq, Option.some.injEq, eq_comm (a := i)]

theorem State.overlaps_skip_false {s : State} {c : Contents} {i : WindowIdx}
    (apart : ∀ j, j ≠ i → ∀ r ∈ (s.window j).reserved, rangesMeet c.range r = false) : s.overlaps c (some i) = false :=
  (State.overlaps_false s c (some i)).2 fun j other => apart j fun same => other (congrArg some same.symm)

/-- A WINDOW REPLACE that passes its checks acts on its window by the use count (R17, R18). -/
theorem windowReplaceAct_passed {s : State} {f : MgmtFrame} {i : WindowIdx} {c : Contents}
    (names : (field (f.word 0) 0 8).toNat = i.val) (live : (s.window i).state = .live) (idle : s.deferred = none)
    (record : windowRecord (f.word 0) (f.word 1) (f.word 2) (f.word 3) = some c) (limit : f.word 4 ≠ 0)
    (small : (f.word 4).toNat ≤ 255) (apart : ∀ j, j ≠ i → ∀ r ∈ (s.window j).reserved, rangesMeet c.range r = false) :
    windowReplaceAct f s =
      if (s.window i).useCount = 0 then (s.installNow i c, .done)
      else (s.startDrain f i (.replacement c) ((f.word 4).setWidth 8), .deferred) := by
  rw [windowReplaceAct_eq, onWindow_window names, State.replaceWindow_live live idle, replaceOperands_some record limit small]
  simp only [State.overlaps_skip_false apart, Bool.false_eq_true, if_false]

/-- A WINDOW CLOSE that passes its checks acts on its window by the use count (R19, R20). -/
theorem windowCloseAct_passed {s : State} {f : MgmtFrame} {i : WindowIdx}
    (names : (field (f.word 0) 0 8).toNat = i.val) (live : (s.window i).state = .live) (idle : s.deferred = none)
    (limit : field (f.word 0) 8 8 ≠ 0) (small : (f.word 0).toNat < 0x10000) :
    windowCloseAct f s =
      if (s.window i).useCount = 0 then (s.closeNow i, .done)
      else (s.startDrain f i .close (field (f.word 0) 8 8), .deferred) := by
  rw [windowCloseAct_eq, onWindow_window names, State.closeWindow_live live idle, closeLimit_eq, if_pos ⟨small, limit⟩]

/-! ## WINDOW REPLACE and WINDOW CLOSE: refusals (R14, R16, R19) -/

/-- A WINDOW REPLACE that its block refuses (R16, R163). -/
theorem exec_windowReplace_refused {s : State} {f : MgmtFrame} {r : Reason} (accepted : CommandAccepted s f 5)
    (act : windowReplaceAct f (s.answerDeferred f .windowReplace) = (s.answerDeferred f .windowReplace, .refused r)) :
    exec (.windowReplace f) s = .next (s.answeredRefused f .windowReplace r) :=
  congrArg Host.Outcome.next (State.manage_refused s .windowReplace 5 f _ r accepted act)

/-- A WINDOW CLOSE that its block refuses (R19, R163). -/
theorem exec_windowClose_refused {s : State} {f : MgmtFrame} {r : Reason} (accepted : CommandAccepted s f 1)
    (act : windowCloseAct f (s.answerDeferred f .windowClose) = (s.answerDeferred f .windowClose, .refused r)) :
    exec (.windowClose f) s = .next (s.answeredRefused f .windowClose r) :=
  congrArg Host.Outcome.next (State.manage_refused s .windowClose 1 f _ r accepted act)

/-- The checks that WINDOW REPLACE and WINDOW CLOSE share: what both acts answer is what the command that is one of them answers. -/
theorem exec_windowChange_refused {s : State} {f : MgmtFrame} {c : Instr} {m : Command} {n : Nat} {r : Reason}
    (which : (c = .windowReplace f ∧ m = .windowReplace ∧ n = 5) ∨ (c = .windowClose f ∧ m = .windowClose ∧ n = 1))
    (accepted : CommandAccepted s f n)
    (act : windowReplaceAct f (s.answerDeferred f m) = (s.answerDeferred f m, .refused r) ∧
      windowCloseAct f (s.answerDeferred f m) = (s.answerDeferred f m, .refused r)) :
    exec c s = .next (s.answeredRefused f m r) := by
  rcases which with ⟨rfl, rfl, rfl⟩ | ⟨rfl, rfl, rfl⟩
  · exact exec_windowReplace_refused accepted act.1
  · exact exec_windowClose_refused accepted act.2

/-- Settles O24: the shared checks in their order, and then the operands of each command. -/
theorem windowChangeRefused : Obligations.WindowChangeRefused := by
  intro f s
  refine ⟨fun c m n which accepted => ⟨fun names => ?_, fun i names => ⟨fun free => ?_, fun busy => ?_⟩⟩,
    fun i names live idle => ⟨fun accepted => ⟨fun bad => ?_, fun c record limit small meets => ?_⟩, fun accepted bad => ?_⟩⟩
  · refine exec_windowChange_refused which accepted ?_
    simp only [windowReplaceAct_eq, windowCloseAct_eq, onWindow_badIndex names, and_self]
  · refine exec_windowChange_refused which accepted ?_
    simp only [windowReplaceAct_eq, windowCloseAct_eq, onWindow_window names]
    exact State.changeWindow_notLive (by simpa using free)
  · refine exec_windowChange_refused which accepted ?_
    simp only [windowReplaceAct_eq, windowCloseAct_eq, onWindow_window names]
    exact State.changeWindow_busy (by simpa using busy)
  · refine exec_windowReplace_refused accepted ?_
    rw [windowReplaceAct_eq, onWindow_window names, State.replaceWindow_live (by simpa using live) (by simpa using idle),
      replaceOperands_none bad]
  · refine exec_windowReplace_refused accepted ?_
    rw [windowReplaceAct_eq, onWindow_window names, State.replaceWindow_live (by simpa using live) (by simpa using idle),
      replaceOperands_some record limit small]
    simp only [State.overlaps_answerDeferred, State.overlaps_skip.2 meets, if_true]
  · refine exec_windowClose_refused accepted ?_
    rw [windowCloseAct_eq, onWindow_window names, State.closeWindow_live (by simpa using live) (by simpa using idle), closeLimit_eq,
      if_neg (by rintro ⟨small, nonzero⟩; rcases bad with zero | wide; exacts [nonzero zero, absurd small (by omega)])]

/-! ## WINDOW REPLACE and WINDOW CLOSE: the start of a drain (R18, R20, R21) -/

/-- Settles O23: with tracked accesses, both commands only start a drain. -/
theorem drainStart : Obligations.DrainStart := by
  intro f s i names live used idle
  have used : ∀ m, ¬ ((s.answerDeferred f m).window i).useCount = 0 := fun _ => used
  refine ⟨fun c accepted record limit small apart => ?_, fun accepted limit small => ?_⟩
  · have act := windowReplaceAct_passed (s := s.answerDeferred f .windowReplace) names (by simpa using live) (by simpa using idle) record
      limit small (by simpa using apart)
    rw [if_neg (used _)] at act
    have micros : ((f.word 4).setWidth 8).toNat * Config.microsPerMilli = (f.word 4).toNat * 1000 := by
      rw [BitVec.toNat_setWidth, Nat.mod_eq_of_lt (by omega), Config.microsPerMilli]
    refine congrArg Host.Outcome.next ((State.manage_deferred s _ .windowReplace 5 f _ accepted act).trans ?_)
    simp only [State.startDrain, micros]
    rfl
  · have act := windowCloseAct_passed (s := s.answerDeferred f .windowClose) names (by simpa using live) (by simpa using idle) limit small
    rw [if_neg (used _)] at act
    exact congrArg Host.Outcome.next (State.manage_deferred s _ .windowClose 1 f _ accepted act)

/-! ## The re-check of queue entries (R25) -/

/-- A filter of the queue with its REMAPPED answers (R25, R48). -/
theorem State.remapUnless_eq {s : State} {test : QueueEntry → Bool} {keep gone : List QueueEntry} (kept : keep = s.requestQueue.filter test)
    (left : gone = s.requestQueue.filter fun e => !test e) : s.remapUnless test =
      { s with
        requestQueue := keep
        mc := { s.mc with queueEmpty := keep.isEmpty }
        li := { s.li with
          responses := s.li.responses ++ gone.map fun e => refusal e.requester e.tag .data .remapped false } } := by
  subst kept left
  rfl

/-- The entries that the re-check removes (R25). -/
theorem recheck_gone (q : List QueueEntry) (i : WindowIdx) (passes : QueueEntry → Bool) :
    (q.filter fun e => !(e.window != i || passes e)) = q.filter fun e => e.window == i && !passes e :=
  List.filter_congr fun e _ => by simp [bne]

/-- The entries that a close removes (R19, R24). -/
theorem remapWindow_gone (q : List QueueEntry) (i : WindowIdx) :
    (q.filter fun e => !(e.window != i)) = q.filter fun e => e.window == i :=
  List.filter_congr fun e _ => by simp [bne]

/-- An install of a replacement (R17, R23, R25). -/
theorem State.installNow_eq {s : State} {i : WindowIdx} {c : Contents} {keep gone : List QueueEntry}
    (kept : keep = s.requestQueue.filter fun e => e.window != i || e.passes c ((s.port c.port).state == .disabled))
    (left : gone = s.requestQueue.filter fun e => e.window == i && !e.passes c ((s.port c.port).state == .disabled)) :
    s.installNow i c =
      { s with
        windows := s.windows.set i { s.window i with state := .live, contents := c, hitCount := 0, pending := none }
        requestQueue := keep
        mc := { s.mc with queueEmpty := keep.isEmpty }
        li := { s.li with
          responses := s.li.responses ++ gone.map fun e => refusal e.requester e.tag .data .remapped false } } :=
  State.remapUnless_eq kept (left.trans (recheck_gone _ _ _).symm)

/-- An install of a close (R19, R24). -/
theorem State.closeNow_eq {s : State} {i : WindowIdx} {keep gone : List QueueEntry}
    (kept : keep = s.requestQueue.filter fun e => e.window != i) (left : gone = s.requestQueue.filter fun e => e.window == i) :
    s.closeNow i =
      { s with
        windows := s.windows.set i { s.window i with state := .free, pending := none }
        requestQueue := keep
        mc := { s.mc with queueEmpty := keep.isEmpty }
        li := { s.li with
          responses := s.li.responses ++ gone.map fun e => refusal e.requester e.tag .data .remapped false } } :=
  State.remapUnless_eq kept (left.trans (remapWindow_gone _ _).symm)

/-- Settles O22: with no tracked access, both commands act at once, and their OK stands behind the REMAPPED answers. -/
theorem windowChangeAtOnce : Obligations.WindowChangeAtOnce := by
  intro f s i keep gone names live unused idle
  have unused : ∀ m, ((s.answerDeferred f m).window i).useCount = 0 := fun _ => unused
  refine ⟨fun c accepted record limit small apart kept left => ?_, fun accepted limit small kept left => ?_⟩
  · have act := windowReplaceAct_passed (s := s.answerDeferred f .windowReplace) names (by simpa using live) (by simpa using idle) record
      limit small (by simpa using apart)
    rw [if_pos (unused _), State.installNow_eq (s := s.answerDeferred f .windowReplace) kept left] at act
    refine congrArg Host.Outcome.next ((State.manage_done s _ .windowReplace 5 f _ accepted act rfl).trans (congrArg State.followUp ?_))
    rfl
  · have act := windowCloseAct_passed (s := s.answerDeferred f .windowClose) names (by simpa using live) (by simpa using idle) limit small
    rw [if_pos (unused _), State.closeNow_eq (s := s.answerDeferred f .windowClose) kept left] at act
    refine congrArg Host.Outcome.next ((State.manage_done s _ .windowClose 1 f _ accepted act rfl).trans (congrArg State.followUp ?_))
    rfl

/-! ## The end of a drain (R23 to R27) -/

theorem State.installDue_used {s : State} {d : DeferredOp} (deferred : s.deferred = some d) (used : (s.window d.index).useCount ≠ 0) :
    s.installDue = none := by
  simp [State.installDue, deferred, used]

/-- The install of a replacement that is due, field by field (R23). -/
theorem State.installFor_replacement {s : State} {d : DeferredOp} {c : Contents} {keep gone : List QueueEntry}
    (kept : keep = s.requestQueue.filter fun e => e.window != d.index || e.passes c ((s.port c.port).state == .disabled))
    (left : gone = s.requestQueue.filter fun e => e.window == d.index && !e.passes c ((s.port c.port).state == .disabled)) :
    s.installFor d (.replacement c) =
      { s with
        deferred := none
        windows := s.windows.set d.index { s.window d.index with state := .live, contents := c, hitCount := 0, pending := none }
        requestQueue := keep
        mc := { s.mc with queueEmpty := keep.isEmpty }
        li := { s.li with
          responses := s.li.responses ++ gone.map (fun e => refusal e.requester e.tag .data .remapped false) ++
            [okResponse d.requester d.tag .management []] }
        mgmtQueue := s.mgmtQueue.map (DeferredOp.answeredEntry d) } := by
  rw [State.installFor, State.installNow_eq (s := s.endDeferred) kept left]
  rfl

/-- The install of a close that is due, field by field (R24). -/
theorem State.installFor_close {s : State} {d : DeferredOp} {keep gone : List QueueEntry}
    (kept : keep = s.requestQueue.filter fun e => e.window != d.index)
    (left : gone = s.requestQueue.filter fun e => e.window == d.index) :
    s.installFor d .close =
      { s with
        deferred := none
        windows := s.windows.set d.index { s.window d.index with state := .free, pending := none }
        requestQueue := keep
        mc := { s.mc with queueEmpty := keep.isEmpty }
        li := { s.li with
          responses := s.li.responses ++ gone.map (fun e => refusal e.requester e.tag .data .remapped false) ++
            [okResponse d.requester d.tag .management []] }
        mgmtQueue := s.mgmtQueue.map (DeferredOp.answeredEntry d) } := by
  rw [State.installFor, State.closeNow_eq (s := s.endDeferred) kept left]
  rfl

/-- Settles O25: the install that is due and its answers, and the expiry of the drain timer. -/
theorem drainEnds : Obligations.DrainEnds := by
  intro s t d l keep gone deferred draining
  refine ⟨fun c unused pending kept left result => ?_, fun unused pending kept left result => ?_, fun used => ?_, fun ran => ?_,
    fun runs => ?_⟩
  · have due := State.installDue_of deferred draining unused pending
    have installed : s.installFor d (.replacement c) = t := (State.installFor_replacement kept left).trans result.symm
    simp only [State.installPending, exec, execInstallReplacement, due, installed, and_self]
  · have due := State.installDue_of deferred draining unused pending
    have installed : s.installFor d .close = t := (State.installFor_close kept left).trans result.symm
    simp only [State.installPending, exec, execInstallClose, due, installed, and_self]
  · have notDue := State.installDue_used deferred used
    simp only [State.installPending, exec, execInstallReplacement, execInstallClose, notDue, and_self]
  · simp only [exec, execDrainTimerExpiry, deferred, if_pos (And.intro ran draining)]
    rfl
  · simp only [exec, execDrainTimerExpiry, deferred, if_neg (fun due : _ ∧ _ => runs due.1)]

end Sys2Proof.Machine
end

section
/-! PROOFS. The commands that read an image (R28, R97, R132, R147, R167, R189), and what the images carry (12.4): each word is made of
fields in bits of their own, so that every field is read back from it. -/

namespace Sys2Proof.Machine

/-! ## Reads (R28, R97, R132, R147, R167, R189) -/

/-- A port command whose word holds a port and nothing else acts on that port (12.3). -/
theorem onPort_port {f : MgmtFrame} {s : State} {p : PortId} (act : PortId → State × Answer)
    (names : f.word 0 = BitVec.ofNat 32 p.val) : onPort f s act = act p := by
  obtain ⟨index, only⟩ := index_word (by decide) p names
  simp only [onPort, index, only, if_true]

theorem windowReadAct_window {f : MgmtFrame} {s : State} {i : WindowIdx} (names : f.word 0 = BitVec.ofNat 32 i.val) :
    windowReadAct f s = (s, .ok ((s.window i).image i)) := by
  obtain ⟨index, only⟩ := index_word (by decide) i names
  simp only [windowReadAct, index, only, if_true, unchanged]

theorem trackReadAct_entry {f : MgmtFrame} {s : State} {i : TrackIdx} (names : f.word 0 = BitVec.ofNat 32 i.val) :
    trackReadAct f s = (s, .ok (s.trackWords i)) := by
  obtain ⟨index, only⟩ := index_word (by decide) i names
  simp only [trackReadAct, index, only, if_true, unchanged]

/-- The entry that an index finds, and the entries dispatched before it (R51, R52, R167). -/
theorem State.entry_rank {s : State} {older younger : List TrackEntry} {e : TrackEntry} (table : s.tracking = older ++ e :: younger)
    (others : ∀ x ∈ older, x.index ≠ e.index) : s.entry? e.index = some e ∧ s.rankOf e.index = older.length := by
  have skipped : older.find? (fun x => x.index == e.index) = none := by simpa using others
  have taken : older.takeWhile (fun x => x.index != e.index) = older := List.takeWhile_eq_self_iff.2 (by simpa using others)
  constructor
  · simp [State.entry?, table, List.find?_append, skipped]
  · simp [State.rankOf, table, List.takeWhile_append, taken]

/-- Settles O27: every one of these commands only reads, and what it reads is the image. -/
theorem statusReads : Obligations.StatusReads := by
  refine ⟨fun s older younger e table others => State.entry_rank table others, fun f s => ⟨fun i accepted names => ?_,
    fun p accepted names => ?_, fun c accepted names => ?_, fun accepted => ?_, fun i accepted names => ?_, fun accepted => ?_⟩⟩
  · exact congrArg Host.Outcome.next (State.manage_read s .windowRead 1 f _ _ accepted (windowReadAct_window names))
  · exact congrArg Host.Outcome.next (State.manage_read s .portStatus 1 f portStatusAct _ accepted (onPort_port _ names))
  · exact congrArg Host.Outcome.next (State.manage_read s .channelStatus 1 f channelStatusAct _ accepted (onChannel_channel _ names))
  · exact congrArg Host.Outcome.next (State.manage_read s .modeStatus 0 f modeStatusAct _ accepted rfl)
  · have read : exec (.trackRead f) s = .next (s.answeredOk f .trackRead (s.trackWords i)) :=
      congrArg Host.Outcome.next (State.manage_read s .trackRead 1 f _ _ accepted (trackReadAct_entry names))
    refine ⟨fun e found => ?_, fun free => ?_⟩
    · rw [read, State.trackWords, found]
    · rw [read, State.trackWords, free]
  · exact congrArg Host.Outcome.next (State.manage_read s .causeRead 0 f causeReadAct _ accepted rfl)

/-! ## Fields of a word (12.4) -/

@[simp] theorem field_or (a b : Word) (lo n : Nat) : field (a ||| b) lo n = field a lo n ||| field b lo n :=
  BitVec.eq_of_getLsbD_eq fun i hi => by simp [field, hi]

@[simp] theorem bit_or (a b : Word) (k : Nat) : bit (a ||| b) k = (bit a k || bit b k) := BitVec.getLsbD_or

/-- Bit by bit, a placed field. -/
theorem getLsbD_place {m : Nat} (x : BitVec m) (lo i : Nat) (h : i < 32) :
    (place x lo).getLsbD i = (decide (lo ≤ i) && x.getLsbD (i - lo)) := by
  simp only [place, BitVec.getLsbD_shiftLeft, BitVec.getLsbD_setWidth, h, decide_true, Bool.true_and]
  by_cases low : i < lo
  · simp [low]
  · simp [low, show i - lo < 32 by omega, show lo ≤ i by omega]

/-- A field is read back from the bits in which it was placed. -/
@[simp] theorem field_place {m : Nat} (x : BitVec m) (lo : Nat) (h : lo + m ≤ 32) : field (place x lo) lo m = x :=
  BitVec.eq_of_getLsbD_eq fun i hi => by
    simp [field, hi, getLsbD_place x lo (lo + i) (by omega)]

/-- A field of other bits is zero. -/
@[simp] theorem field_place_other {m : Nat} (x : BitVec m) (lo l n : Nat) (h : l + n ≤ lo ∨ lo + m ≤ l) : field (place x lo) l n = 0 :=
  BitVec.eq_of_getLsbD_eq fun i hi => by
    simp only [field, BitVec.getLsbD_extractLsb', hi, decide_true, Bool.true_and]
    rw [show (0 : BitVec n).getLsbD i = false from BitVec.getLsbD_zero]
    by_cases inside : l + i < 32
    · rw [getLsbD_place x lo _ inside]
      rcases h with h | h
      · simp [show ¬ lo ≤ l + i by omega]
      · simp [BitVec.getLsbD_of_ge x (l + i - lo) (by omega)]
    · exact BitVec.getLsbD_of_ge _ _ (by omega)

@[simp] theorem field_zero (lo n : Nat) : field 0 lo n = 0 := BitVec.eq_of_toNat_eq (by simp [field])

@[simp] theorem bit_zero (k : Nat) : bit 0 k = false := BitVec.getLsbD_zero

/-- A flag is a field of one bit. -/
theorem flag_eq_place (b : Bool) (k : Nat) : flag b k = place (BitVec.ofBool b) k := by cases b <;> simp [flag, place]

/-- The other bits of a placed field. -/
@[simp] theorem bit_place_other {m : Nat} (x : BitVec m) (lo k : Nat) (h : k < lo ∨ lo + m ≤ k) : bit (place x lo) k = false := by
  by_cases inside : k < 32
  · rw [bit, getLsbD_place x lo k inside]
    rcases h with h | h
    · simp [show ¬ lo ≤ k by omega]
    · simp [BitVec.getLsbD_of_ge x (k - lo) (by omega)]
  · exact BitVec.getLsbD_of_ge _ _ (by omega)

/-- A field of one bit is read back. -/
@[simp] theorem bit_place_one (x : BitVec 1) (k : Nat) (h : k < 32) : bit (place x k) k = x.getLsbD 0 := by
  simp [bit, getLsbD_place x k k h]

/-- A number that fits a field is placed as that field. -/
theorem num_shift {n : Nat} (m lo : Nat) (h : n < 2 ^ m) (fits : m ≤ 32) : num n <<< lo = place (BitVec.ofNat m n) lo := by
  have small : n < 2 ^ 32 := lt_of_lt_of_le h (Nat.pow_le_pow_right (by omega) fits)
  have same : (BitVec.ofNat m n).setWidth 32 = num n := BitVec.eq_of_toNat_eq (by
    rw [BitVec.toNat_setWidth, BitVec.toNat_ofNat, num, BitVec.toNat_ofNat, Nat.mod_eq_of_lt h])
  rw [place, same]

theorem num_eq_place {n : Nat} (m : Nat) (h : n < 2 ^ m) (fits : m ≤ 32) : num n = place (BitVec.ofNat m n) 0 := by
  rw [← num_shift m 0 h fits, BitVec.shiftLeft_zero]

theorem portNum_eq_place (p : PortId) (lo : Nat) : portNum p lo = place (BitVec.ofNat 2 p.val) lo :=
  num_shift 2 lo p.isLt (by omega)

/-- A number that fits its field is what the field reads. -/
theorem ofNat_toNat {n : Nat} (m : Nat) (h : n < 2 ^ m) : (BitVec.ofNat m n).toNat = n := by
  rw [BitVec.toNat_ofNat, Nat.mod_eq_of_lt h]

/-! ## The window image (R28) -/

theorem WindowState.code_lt (x : WindowState) : x.code < 2 ^ 2 := by cases x <;> decide

theorem pendingKindCode_lt (x : Option PendingRecord) : pendingKindCode x < 2 ^ 2 := by
  rcases x with _ | ⟨_ | _, _⟩ <;> simp [pendingKindCode]

/-- The drain limit in the image; zero without a pending record. -/
def limitField : Option PendingRecord → BitVec 8
  | some r => r.drainLimit
  | none => 0

/-- A logical base is its upper twenty bits (R3, 12.4). -/
theorem aligned_eq_place {a : Word} (aligned : a.toNat % 0x1000 = 0) : a = place (field a 12 20) 12 := by
  apply BitVec.eq_of_toNat_eq
  have bound := a.isLt
  simp only [place, field, BitVec.toNat_shiftLeft, BitVec.toNat_setWidth, BitVec.extractLsb'_toNat, Nat.shiftRight_eq_div_pow,
    Nat.shiftLeft_eq]
  omega

/-- The mask of the upper twenty bits keeps a field there and removes what stands below. -/
theorem mask_upper {m : Nat} (x : BitVec 20) (y : BitVec m) (h : m ≤ 12) :
    (place x 12 ||| place y 0) &&& 0xFFFFF000 = place x 12 := by
  apply BitVec.eq_of_getLsbD_eq
  intro i hi
  rw [BitVec.getLsbD_and, BitVec.getLsbD_or, getLsbD_place x 12 i hi, getLsbD_place y 0 i hi,
    show (0xFFFFF000 : Word) = BitVec.allOnes 32 <<< 12 by decide, BitVec.getLsbD_shiftLeft, BitVec.getLsbD_allOnes]
  by_cases low : i < 12
  · simp [low]
  · simp [low, hi, show 12 ≤ i by omega, show i - 12 < 32 by omega, BitVec.getLsbD_of_ge y i (by omega)]

/-- A physical base is its upper sixteen bits (R3, 12.4). -/
theorem granules_of_aligned {a : PhysAddr} (aligned : a.toNat % 0x1000 = 0) : (a.extractLsb' 12 16).setWidth 28 <<< 12 = a := by
  apply BitVec.eq_of_toNat_eq
  have bound := a.isLt
  rw [granules_toNat]
  simp only [BitVec.extractLsb'_toNat, Nat.shiftRight_eq_div_pow]
  omega

/-- The words of a window image, field by field (R28, 12.4). -/
theorem Window.image_eq {w : Window} (valid : w.contents.valid = true) (used : w.useCount ≤ 16) (i : WindowIdx) : w.image i =
    [place (field w.contents.logicalBase 12 20) 12 ||| place (BitVec.ofNat 8 i.val) 0,
     place (w.contents.physicalBase.extractLsb' 12 16) 16 ||| place (BitVec.ofNat 16 (w.contents.size - 1)) 0,
     place w.contents.requesters 0 ||| place (BitVec.ofBool w.contents.mayRead) 8 ||| place (BitVec.ofBool w.contents.mayWrite) 9
       ||| place (BitVec.ofBool w.contents.maySwap) 10 ||| place (BitVec.ofNat 2 w.contents.port.val) 12
       ||| place (BitVec.ofBool w.contents.posted) 16 ||| place (BitVec.ofBool w.contents.strict) 17,
     place (BitVec.ofNat 2 w.state.code) 0 ||| place (BitVec.ofNat 2 (pendingKindCode w.pending)) 2 ||| place (limitField w.pending) 8
       ||| place (BitVec.ofNat 5 w.useCount) 16,
     w.hitCount] := by
  obtain ⟨aligned, -, one, size, -, -⟩ := (Contents.valid_iff _).1 valid
  simp only [Window.image, Contents.words, flag_eq_place, portNum_eq_place, List.cons_append, List.nil_append,
    num_eq_place (n := i.val) 8 (by omega) (by omega), num_eq_place (n := w.contents.size - 1) 16 (by omega) (by omega),
    num_eq_place 2 w.state.code_lt (by omega), num_shift 2 2 (pendingKindCode_lt w.pending) (by omega),
    num_shift (n := w.useCount) 5 16 (by omega) (by omega)]
  rw [← aligned_eq_place aligned]
  cases w.pending <;> rfl

/-- Settles O29: each word of the image is split into its fields. -/
theorem windowImageCarriesItsFields : Obligations.WindowImageCarriesItsFields := by
  intro w i valid used
  obtain ⟨aligned, -, one, size, granules, -⟩ := (Contents.valid_iff _).1 valid
  refine ⟨_, _, _, _, Window.image_eq valid used i, ?_⟩
  have sized : (BitVec.ofNat 16 (w.contents.size - 1)).toNat + 1 = w.contents.size := by rw [ofNat_toNat 16 (by omega)]; omega
  have count : (BitVec.ofNat 5 w.useCount).toNat = w.useCount := ofNat_toNat 5 (by omega)
  refine ⟨?base, ?index, ?physical, ?size, ?set, ?read, ?write, ?swap, ?port, ?posted, ?strict, ?state, ?kind, ?limit, ?uses⟩
  case base => rw [mask_upper _ _ (by omega), ← aligned_eq_place aligned]
  case index =>
    simp
    omega
  case physical => simpa using granules_of_aligned granules
  case size => simpa using sized
  case state => cases w.state <;> simp [WindowState.code]
  case kind => rcases w.pending with _ | ⟨_ | _, _⟩ <;> simp [pendingKindCode]
  case limit =>
    intro r pending
    simp [pending, limitField]
  case uses => simpa using count
  all_goals simp

/-! ## Port images (R97, R165) -/

theorem PortState.code_lt (x : PortState) : x.code < 2 ^ 3 := by cases x <;> simp [PortState.code]

/-- The settle target bit is set exactly in SETTLING toward STOPPED. -/
theorem PortState.target_eq_place (x : PortState) :
    num x.targetCode <<< 3 = place (BitVec.ofBool (decide (x = .settling .stopped))) 3 := by
  rcases x with _ | _ | ⟨_ | _⟩ | _ | _ | _ <;> rfl

/-- The entry that holds the SWAP lock; zero when there is none. -/
def lockField : Option TrackIdx → BitVec 4
  | some i => BitVec.ofNat 4 i.val
  | none => 0

/-- The first word of a port status image, field by field (R97, 12.4). -/
def Port.statusWord (p : Port) : Word :=
  place (BitVec.ofNat 3 p.state.code) 0 ||| place (BitVec.ofBool (decide (p.state = .settling .stopped))) 3
    ||| place (BitVec.ofBool p.holdRequest) 7 ||| place (BitVec.ofBool p.grant) 6 ||| place (BitVec.ofBool p.pace) 5
    ||| place (BitVec.ofBool p.resetLine) 4 ||| place (BitVec.ofBool p.stallReport) 8 ||| place (BitVec.ofBool (p.turn == .copy)) 9
    ||| place (BitVec.ofBool p.lock.isSome) 15 ||| place (lockField p.lock) 16

/-- The slot word of a port status image, byte by byte (R97, 12.4). -/
def Port.slotWord (p : Port) : Word :=
  place (BitVec.ofNat 8 (p.slot 0).imageByte) 0 ||| place (BitVec.ofNat 8 (p.slot 1).imageByte) 8
    ||| place (BitVec.ofNat 8 (p.slot 2).imageByte) 16 ||| place (BitVec.ofNat 8 (p.slot 3).imageByte) 24

theorem Slot.imageByte_lt (x : Slot) : x.imageByte < 2 ^ 8 := by
  rcases x with _ | ⟨_ | _ | ⟨c, _ | _⟩ | _, _, _⟩ | _ <;> simp [Slot.imageByte, Half.code] <;> omega

/-- The words of a port status image (R97, 12.4). -/
theorem Port.statusImage_eq (p : Port) : p.statusImage =
    [p.statusWord,
     place p.config.accessTimeout 4 ||| place p.config.retryLimit 8 ||| place p.config.resetPulse 16 ||| place p.config.holdLimit 24,
     place p.config.interval 0 ||| place p.config.rowLimit 16, p.slotWord,
     p.counters.issued, p.counters.timeouts, p.counters.late, p.counters.retries, p.counters.stray] := by
  simp only [Port.statusImage, Port.statusWord, Port.slotWord, PortConfig.words, PortCounters.words, flag_eq_place,
    PortState.target_eq_place, num_eq_place 3 p.state.code_lt (by omega), num_eq_place 8 (p.slot 0).imageByte_lt (by omega),
    num_shift 8 8 (p.slot 1).imageByte_lt (by omega), num_shift 8 16 (p.slot 2).imageByte_lt (by omega),
    num_shift 8 24 (p.slot 3).imageByte_lt (by omega), List.cons_append, List.nil_append]
  rcases lock : p.lock with _ | i
  · rfl
  · simp only [lockField, num_shift 4 16 i.isLt (by omega)]

/-- A byte of the slot word is that of its slot. -/
theorem Port.field_slotWord (p : Port) (k : SlotId) : (field p.slotWord (8 * k.val) 8).toNat = (p.slot k).imageByte := by
  have bytes := fun j => ofNat_toNat 8 (p.slot j).imageByte_lt
  fin_cases k
  all_goals simpa [Port.slotWord] using bytes _

/-- The last failed row in the image; zero when there is none. -/
def rowField : Option Row → BitVec 10
  | some r => r
  | none => 0

/-- The last failed row with its NONE mark, field by field. -/
theorem lastRowWord_eq (x : Option Row) : lastRowWord x = place (BitVec.ofBool x.isNone) 15 ||| place (rowField x) 0 := by
  cases x <;> simp [lastRowWord, rowField, flag_eq_place, place]

theorem AccessState.num_code (x : AccessState) : num x.code <<< 20 = place (BitVec.ofBool (decide (x = .waiting))) 20 := by
  cases x <;> rfl

/-- Settles O30: each word of the status image and of the counter block is split into its fields. -/
theorem portImagesCarryTheirFields : Obligations.PortImagesCarryTheirFields := by
  refine ⟨fun p => ⟨_, _, _, _, p.statusImage_eq, ?_⟩, fun p few => ⟨_, _, rfl, ?_⟩, fun l => rfl⟩
  · refine ⟨?state, ?target, ?request, ?grant, ?pace, ?reset, ?stall, ?turn, ?locked, ?lock, ?timeout, ?retries, ?pulse, ?hold,
      ?interval, ?rows, fun k => ?slot⟩
    case state => rcases state : p.state with _ | _ | _ | _ | _ | _ <;> simp [Port.statusWord, PortState.code, state]
    case grant => rcases state : p.state with _ | _ | _ | _ | _ | _ <;> simp [Port.statusWord, Port.grant, state]
    case reset => simp [Port.statusWord, Port.resetLine, beq_eq_decide]
    case turn => simp [Port.statusWord, beq_eq_decide]
    case lock =>
      intro i held
      simp [Port.statusWord, held, lockField]
    case slot =>
      rw [Port.field_slotWord]
      rcases p.slot k with _ | ⟨_ | _ | ⟨_, _ | _⟩ | _, _, _⟩ | _ <;> simp [Slot.imageByte, Half.code] <;> omega
    all_goals simp [Port.statusWord]
  · rw [lastRowWord_eq, flag_eq_place]
    refine ⟨?failed, ?row, ?counter, ?pending, ?absent, ?inFlight⟩
    case row =>
      intro r failed
      simp [failed, rowField]
    case absent =>
      intro absent
      rw [absent, upkeepAccessWord]
    case inFlight =>
      intro a inFlight
      have retries : a.retries < 2 ^ 4 := by
        have := few a inFlight
        omega
      rw [inFlight, upkeepAccessWord, flag_eq_place, AccessState.num_code, num_shift 4 16 retries (by omega)]
      have counted := ofNat_toNat 4 retries
      refine ⟨?_, ?_, ?_, ?_⟩
      · simp
      · simp
      · simpa using counted
      · simp
    all_goals simp

end Sys2Proof.Machine
end

section
/-! PROOFS. What the images of a channel, of a tracking entry, of the Mode Controller and of the Cause Record carry (12.4). -/

namespace Sys2Proof.Machine

/-! ## Descriptors and progress in a channel image (R132) -/

/-- Word k of an optional descriptor in the image. -/
def descriptorWord (x : Option Descriptor) (k : Nat) : Word := (descriptorImage x).getD k 0

theorem descriptorImage_eq (x : Option Descriptor) :
    descriptorImage x = [descriptorWord x 0, descriptorWord x 1, descriptorWord x 2] := by cases x <;> rfl

/-- The progress words of a channel: units that remain, source, destination. -/
def progressImage : Option CurrentCopy → List Word
  | some cur => [num cur.remaining, place cur.src 0, place cur.dst 0]
  | none => [0, 0, 0]

/-- Word k of the progress. -/
def progressWord (x : Option CurrentCopy) (k : Nat) : Word := (progressImage x).getD k 0

@[simp] theorem place_zero (m lo : Nat) : place (0#m) lo = 0 := by simp [place]

theorem Step.code_lt (x : Step) : x.code < 2 ^ 2 := by cases x <;> decide

/-- The words of one side of a descriptor, field by field. -/
theorem sideWord_eq (a : PhysAddr) (p : PortId) (x : Step) : (place a 0 ||| portNum p 28 ||| num x.code <<< 30) =
    place a 0 ||| place (BitVec.ofNat 2 p.val) 28 ||| place (BitVec.ofNat 2 x.code) 30 := by
  rw [portNum_eq_place, num_shift 2 30 x.code_lt (by omega)]

/-- The line and the sense of a pacing; zero unless it is PACED. -/
def paceFields : Pacing → BitVec 2 × Bool
  | .continuous => (0, false)
  | .yielding => (0, false)
  | .paced line sense => (BitVec.ofNat 2 line.val, sense == .edge)

/-- The code of a pacing (12.4). -/
def Pacing.code : Pacing → Nat
  | .continuous => 0
  | .yielding => 1
  | .paced _ _ => 2

/-- The pacing fields of descriptor word 2. -/
theorem Pacing.bits_eq (x : Pacing) : x.bits =
    place (BitVec.ofNat 2 x.code) 16 ||| place (paceFields x).1 18 ||| place (BitVec.ofBool (paceFields x).2) 20 := by
  delta Pacing.bits
  cases x with
  | continuous => simp [Pacing.code, paceFields]
  | yielding => simp only [Pacing.code, paceFields, num_shift (n := 1) 2 16 (by omega) (by omega), place_zero, BitVec.ofBool_false,
      BitVec.ofNat_eq_ofNat, BitVec.or_zero]
  | paced line sense =>
    simp only [Pacing.code, paceFields, portNum_eq_place, flag_eq_place, num_shift (n := 2) 2 16 (by omega) (by omega)]

/-- What a word of one side carries. -/
theorem sideWord_carries (a : PhysAddr) (p : PortId) (x : Step) :
    field (place a 0 ||| portNum p 28 ||| num x.code <<< 30) 0 28 = a ∧
      (field (place a 0 ||| portNum p 28 ||| num x.code <<< 30) 28 2).toNat = p.val ∧
      (field (place a 0 ||| portNum p 28 ||| num x.code <<< 30) 30 2).toNat = x.code := by
  have code := ofNat_toNat 2 x.code_lt
  rw [sideWord_eq]
  exact ⟨by simp, by simp, by simpa using code⟩

/-- What the last word of a descriptor carries. -/
structure CarriesCount (z : Word) (d : Descriptor) : Prop where
  count : (field z 0 16).toNat + 1 = d.count
  pacing : (field z 16 2).toNat = d.pacing.code
  line : ∀ line sense, d.pacing = .paced line sense → (field z 18 2).toNat = line.val ∧ bit z 20 = decide (sense = .edge)
  unpaced : (∀ line sense, d.pacing ≠ .paced line sense) → field z 18 3 = 0
  notify : bit z 24 = d.notify

theorem countWord_carries {d : Descriptor} (one : 1 ≤ d.count) (most : d.count ≤ 65536) :
    CarriesCount (num (d.count - 1) ||| d.pacing.bits ||| flag d.notify 24) d := by
  have count : (BitVec.ofNat 16 (d.count - 1)).toNat + 1 = d.count := by rw [ofNat_toNat 16 (by omega)]; omega
  rw [num_eq_place (n := d.count - 1) 16 (by omega) (by omega), Pacing.bits_eq, flag_eq_place]
  refine ⟨by simpa using count, ?_, fun line sense paced => ?_, fun unpaced => ?_, by simp⟩
  · cases d.pacing <;> simp [Pacing.code]
  · simp [paced, paceFields, beq_eq_decide]
  · cases pacing : d.pacing with
    | continuous => simp [paceFields, Pacing.code]
    | yielding => simp [paceFields, Pacing.code]
    | paced line sense => exact absurd pacing (unpaced line sense)

/-! ## The first word of a channel image (R132) -/

/-- The code of a half state (12.4). -/
def HalfState.code : HalfState → Nat
  | .ready => 0
  | .issued _ => 1
  | .waiting => 2

/-- The slot of a half that is ISSUED; zero for any other. -/
def HalfState.slotField : HalfState → BitVec 2
  | .issued k => BitVec.ofNat 2 k.val
  | .ready => 0
  | .waiting => 0

/-- The unit fields of a channel with a unit in flight. -/
theorem unitBits_some {ch : Channel} {cur : CurrentCopy} {u : CopyUnit} (current : ch.current = some cur) (unit : ch.unit = some u)
    (few : u.retries ≤ 15) : unitBits ch =
      place (BitVec.ofNat 2 (u.phase.half.code + 1)) 10
        ||| (place (BitVec.ofNat 2 u.half.code) 12 ||| place u.half.slotField 18)
        ||| place (BitVec.ofNat 2 (cur.desc.portOf u.phase.half).val) 16 ||| place (BitVec.ofNat 4 u.retries) 20 := by
  have half : u.phase.half.code + 1 < 2 ^ 2 := by cases u.phase.half <;> decide
  simp only [unitBits, current, unit, portNum_eq_place, num_shift 2 10 half (by omega), num_shift (n := u.retries) 4 20 (by omega) (by omega)]
  cases u.half with
  | ready => simp [HalfState.code, HalfState.slotField]
  | issued k =>
    simp only [HalfState.code, HalfState.slotField, num_shift (n := 1) 2 12 (by omega) (by omega), num_shift 2 18 k.isLt (by omega)]
  | waiting => simp [HalfState.code, HalfState.slotField, num_shift (n := 2) 2 12]

/-- A channel without a unit in flight has no unit fields. -/
theorem unitBits_none {ch : Channel} (unit : ch.unit = none) : unitBits ch = 0 := by
  unfold unitBits
  rw [unit]
  cases ch.current <;> rfl

theorem unitBits_noCurrent {ch : Channel} (current : ch.current = none) : unitBits ch = 0 := by
  unfold unitBits
  rw [current]

/-- The unit fields stand in bits 23 to 10. -/
theorem field_unitBits_other {ch : Channel} (few : ∀ u, ch.unit = some u → u.retries ≤ 15) (l n : Nat) (h : l + n ≤ 10 ∨ 24 ≤ l) :
    field (unitBits ch) l n = 0 := by
  cases unit : ch.unit with
  | none => rw [unitBits_none unit, field_zero]
  | some u =>
    cases current : ch.current with
    | none => rw [unitBits_noCurrent current, field_zero]
    | some cur =>
      rw [unitBits_some current unit (few u unit)]
      simp (disch := omega)

theorem bit_unitBits_other {ch : Channel} (few : ∀ u, ch.unit = some u → u.retries ≤ 15) (k : Nat) (h : k < 10 ∨ 24 ≤ k) :
    bit (unitBits ch) k = false := by
  cases unit : ch.unit with
  | none => rw [unitBits_none unit, bit_zero]
  | some u =>
    cases current : ch.current with
    | none => rw [unitBits_noCurrent current, bit_zero]
    | some cur =>
      rw [unitBits_some current unit (few u unit)]
      simp (disch := omega)

theorem Reason.code_lt (r : Reason) : r.code < 2 ^ 7 := by cases r <;> decide

/-- The fault fields: the half and the reason of the last fault. -/
theorem faultBits_some (x : CopyFault) : faultBits (some x) =
    place (BitVec.ofBool (decide (x.half = .write))) 24 ||| place (BitVec.ofNat 7 x.reason.code) 25 := by
  have half : num x.half.code <<< 24 = place (BitVec.ofBool (decide (x.half = .write))) 24 := by cases x.half <;> rfl
  rw [faultBits, half, num_shift 7 25 x.reason.code_lt (by omega)]

/-- The fault fields stand in bits 31 to 24. -/
theorem field_faultBits_other (x : Option CopyFault) (l n : Nat) (h : l + n ≤ 24) : field (faultBits x) l n = 0 := by
  cases x with
  | none => rw [faultBits, field_zero]
  | some x =>
    rw [faultBits_some]
    simp (disch := omega)

theorem bit_faultBits_other (x : Option CopyFault) (k : Nat) (h : k < 24) : bit (faultBits x) k = false := by
  cases x with
  | none => rw [faultBits, bit_zero]
  | some x =>
    rw [faultBits_some]
    simp (disch := omega)

theorem ChannelState.code_lt (x : ChannelState) : x.code < 2 ^ 3 := by cases x <;> decide

/-- The first word of a channel image, field by field (R132, 12.4). -/
def State.channelWord (s : State) (c : ChannelId) : Word :=
  place (BitVec.ofNat 3 (s.channel c).state.code) 0 ||| place (BitVec.ofBool s.engineEnable) 4
    ||| place (BitVec.ofBool (s.channel c).current.isSome) 5 ||| place (BitVec.ofBool (s.channel c).pending.isSome) 6
    ||| place (BitVec.ofBool (s.channel c).permit) 7 ||| place (BitVec.ofBool (s.paceLevel (s.channel c))) 8
    ||| unitBits (s.channel c) ||| faultBits (s.channel c).lastFault

/-- The words of a channel image (R132, 12.4). -/
theorem State.channelImage_eq (s : State) (c : ChannelId) : s.channelImage c =
    [s.channelWord c,
     descriptorWord ((s.channel c).current.map CurrentCopy.desc) 0, descriptorWord ((s.channel c).current.map CurrentCopy.desc) 1,
     descriptorWord ((s.channel c).current.map CurrentCopy.desc) 2,
     descriptorWord (s.channel c).pending 0, descriptorWord (s.channel c).pending 1, descriptorWord (s.channel c).pending 2,
     progressWord (s.channel c).current 0, progressWord (s.channel c).current 1, progressWord (s.channel c).current 2, 0, 0] := by
  simp only [State.channelImage, State.channelWord, descriptorImage_eq, flag_eq_place,
    num_eq_place 3 (s.channel c).state.code_lt (by omega), List.cons_append, List.nil_append]
  cases (s.channel c).current <;> rfl

/-! ## The image of a tracking entry (R167) -/

/-- The code of a kind of request. -/
theorem ReqKind.code_lt (x : ReqKind) : x.code < 2 ^ 2 := by cases x <;> decide

/-- The slot of an entry that is ISSUED; zero for one that waits. -/
def EntryState.slotField : EntryState → BitVec 2
  | .issued k => BitVec.ofNat 2 k.val
  | .waiting => 0

/-- An entry is ISSUED. -/
def EntryState.isIssued : EntryState → Bool
  | .issued _ => true
  | .waiting => false

/-- A SWAP stands in its write half. -/
def writing : Option SwapPhase → Bool
  | some (.writeHalf _) => true
  | _ => false

theorem writing_eq (x : Option SwapPhase) : writing x = decide (∃ old, x = some (.writeHalf old)) := by
  rcases x with _ | _ | _ <;> simp [writing]

/-- The first word of a tracking image, field by field (R167, 12.4). -/
def TrackEntry.word (e : TrackEntry) : Word :=
  place (BitVec.ofBool true) 31 ||| place (BitVec.ofNat 3 e.requester.val) 24 ||| place (BitVec.ofNat 6 e.tag.val) 16
    ||| place (BitVec.ofNat 2 e.body.kind.code) 12 ||| place (BitVec.ofNat 5 e.window.val) 7 ||| place (BitVec.ofNat 2 e.port.val) 5
    ||| place (BitVec.ofBool e.posted) 4 ||| (place (BitVec.ofBool e.state.isIssued) 3 ||| place e.state.slotField 0)
    ||| place (BitVec.ofBool (writing e.phase)) 2

/-- The time word of a tracking image: the time left in the slot of an entry that is ISSUED. -/
def State.timeWord (s : State) (e : TrackEntry) : Word :=
  match e.state with
  | .issued k => num ((s.port e.port).slot k).timeLeft
  | .waiting => 0

/-- The words of a tracking image (R167, 12.4). -/
theorem State.trackImage_eq (s : State) {e : TrackEntry} {rank : Nat} (length : e.length ≤ 16) (few : e.retries ≤ 15)
    (ranked : rank ≤ 15) : s.trackImage e rank =
      [e.word, place e.physAddr 0,
       place (BitVec.ofNat 5 e.length) 0 ||| place (BitVec.ofNat 4 e.retries) 8 ||| place (BitVec.ofNat 4 rank) 16, s.timeWord e] := by
  simp only [State.trackImage, TrackEntry.word, flag_eq_place, portNum_eq_place, num_shift 3 24 e.requester.isLt (by omega),
    num_shift 6 16 e.tag.isLt (by omega), num_shift 2 12 e.body.kind.code_lt (by omega), num_shift 5 7 e.window.isLt (by omega),
    num_eq_place (n := e.length) 5 (by omega) (by omega), num_shift (n := e.retries) 4 8 (by omega) (by omega),
    num_shift (n := rank) 4 16 (by omega) (by omega)]
  rcases state : e.state with _ | k
  · rcases e.phase with _ | _ | _ <;> simp [State.timeWord, state, EntryState.isIssued, EntryState.slotField, writing]
  · rcases e.phase with _ | _ | _ <;>
      simp [State.timeWord, state, EntryState.isIssued, EntryState.slotField, writing, num_eq_place 2 k.isLt]

/-! ## The images of the Mode Controller and of the Cause Record (R147, R189) -/

theorem Mode.code_lt (x : Mode) : x.code < 2 ^ 4 := by cases x <;> decide

theorem SupervisionTimer.code_lt (x : SupervisionTimer) : x.code < 2 ^ 2 := by cases x <;> simp [SupervisionTimer.code]

theorem causeCode_lt (x : Option ResetCause) : causeCode x < 2 ^ 2 := by rcases x with _ | _ | _ | _ <;> decide

theorem modeOrNone_lt (x : Option Mode) : modeOrNone x < 2 ^ 4 := by rcases x with _ | _ | _ | _ | _ | _ <;> decide

theorem BootResult.code_lt (x : BootResult) : x.code < 2 ^ 32 := by cases x <;> decide

/-- The first word of a mode image, field by field (R147, 12.4). -/
def State.modeWord (s : State) : Word :=
  place (BitVec.ofNat 4 s.mc.mode.code) 0 ||| place (BitVec.ofBool s.mc.stopOnQuiet) 4 ||| place (BitVec.ofNat 2 s.mc.timer.code) 5
    ||| place (BitVec.ofBool s.mc.wakeOnRequest) 7 ||| place (BitVec.ofBool s.mc.queueEmpty) 8
    ||| place (BitVec.ofBool s.mc.trackingEmpty) 9 ||| place (BitVec.ofBool s.mc.unitsInFlight) 10
    ||| place (BitVec.ofBool s.engineEnable) 11

theorem State.modeImage_eq (s : State) : s.modeImage = [s.modeWord, place s.mc.period 0, num s.mc.timer.millis] := by
  simp only [State.modeImage, State.modeWord, flag_eq_place, num_eq_place 4 s.mc.mode.code_lt (by omega),
    num_shift 2 5 s.mc.timer.code_lt (by omega)]

/-- The first word of the answer to CAUSE READ, field by field (R189, 12.4). -/
def CauseRecord.word (r : CauseRecord) : Word :=
  place (BitVec.ofNat 2 (causeCode (some r.last))) 0 ||| place (BitVec.ofNat 2 (causeCode r.previous)) 2
    ||| place (BitVec.ofNat 4 (modeOrNone r.modeAtReset)) 8 ||| place (BitVec.ofNat 16 r.resetCount) 16

theorem CauseRecord.words_eq {r : CauseRecord} (counted : r.resetCount ≤ 65535) : r.words = [r.word, num r.bootResult.code] := by
  simp only [CauseRecord.words, CauseRecord.word, num_eq_place 2 (causeCode_lt (some r.last)) (by omega),
    num_shift 2 2 (causeCode_lt r.previous) (by omega), num_shift 4 8 (modeOrNone_lt r.modeAtReset) (by omega),
    num_shift (n := r.resetCount) 16 16 (by omega) (by omega)]

theorem num_toNat {n : Nat} (h : n < 2 ^ 32) : (num n).toNat = n := ofNat_toNat 32 h

/-! ## What the images carry -/

/-- The pace level of a channel is that of the line that its current descriptor names (R132). -/
theorem State.paceLevel_paced {s : State} {ch : Channel} {cur : CurrentCopy} {line : PortId} {sense : PaceSense}
    (current : ch.current = some cur) (paced : cur.desc.pacing = .paced line sense) : s.paceLevel ch = (s.port line).pace := by
  simp only [State.paceLevel, current, paced]

/-- Settles O31: each word of the four images is split into its fields. -/
theorem recordImagesCarryTheirFields : Obligations.RecordImagesCarryTheirFields := by
  refine ⟨fun s c counts few => ?_, fun s e rank length few ranked => ⟨_, _, _, _, s.trackImage_eq length few ranked, ?_⟩,
    fun s => ⟨_, _, _, s.modeImage_eq, ?_⟩, fun r counted => ⟨_, _, r.words_eq counted, ?_⟩⟩
  · have others := fun l n h => field_unitBits_other few l n h
    have otherBits := fun k h => bit_unitBits_other few k h
    refine ⟨_, _, _, _, _, _, _, _, _, _, s.channelImage_eq c, ?state, ?enable, ?current, ?pending, ?permit, ?pace, ?noUnit, ?unit,
      ?noFault, ?fault, ?descriptor, ?noPending, ?noCurrent, ?progress⟩
    case state =>
      cases state : (s.channel c).state <;>
        simp [State.channelWord, others, field_faultBits_other, state, ChannelState.code]
    case pace =>
      intro cur line sense current paced
      simp [State.channelWord, otherBits, bit_faultBits_other, State.paceLevel_paced current paced]
    case noUnit =>
      intro unit
      simp [State.channelWord, field_faultBits_other, unitBits_none unit]
    case unit =>
      intro cur u current unit
      have fewRetries := few u unit
      have retries : (BitVec.ofNat 4 u.retries).toNat = u.retries := ofNat_toNat 4 (by omega)
      simp only [State.channelWord, unitBits_some current unit fewRetries]
      refine ⟨?_, ?_, ?_, fun k issued => ?_, ?_⟩
      · cases u.phase.half <;> simp [field_faultBits_other, Half.code]
      · cases u.half <;> simp [field_faultBits_other, HalfState.code]
      · cases u.phase.half <;> simp [field_faultBits_other, Descriptor.portOf]
      · simp [field_faultBits_other, HalfState.slotField, issued]
      · simpa [field_faultBits_other] using retries
    case noFault =>
      intro fault
      simp [State.channelWord, others, fault, faultBits]
    case fault =>
      intro x fault
      have code := ofNat_toNat 7 x.reason.code_lt
      rw [State.channelWord, fault, faultBits_some]
      exact ⟨by simp [otherBits], by simpa [others] using code⟩
    case descriptor =>
      rintro x y z d named
      have words : x = place d.srcAddr 0 ||| portNum d.srcPort 28 ||| num d.srcStep.code <<< 30 ∧
          y = place d.dstAddr 0 ||| portNum d.dstPort 28 ||| num d.dstStep.code <<< 30 ∧
          z = num (d.count - 1) ||| d.pacing.bits ||| flag d.notify 24 ∧ 1 ≤ d.count ∧ d.count ≤ 65536 := by
        rcases named with ⟨rfl, rfl, rfl, current⟩ | ⟨rfl, rfl, rfl, pending⟩
        · rw [current]
          exact ⟨rfl, rfl, rfl, counts d (.inl current)⟩
        · rw [pending]
          exact ⟨rfl, rfl, rfl, counts d (.inr pending)⟩
      obtain ⟨rfl, rfl, rfl, one, most⟩ := words
      obtain ⟨srcAddr, srcPort, srcStep⟩ := sideWord_carries d.srcAddr d.srcPort d.srcStep
      obtain ⟨dstAddr, dstPort, dstStep⟩ := sideWord_carries d.dstAddr d.dstPort d.dstStep
      have last := countWord_carries one most
      exact ⟨srcAddr, srcPort, srcStep, dstAddr, dstPort, dstStep, last.count, last.pacing, last.line, last.unpaced, last.notify⟩
    case noPending =>
      intro pending
      rw [pending]
      rfl
    case noCurrent =>
      intro current
      rw [current]
      rfl
    case progress =>
      intro cur current most
      rw [current]
      exact ⟨num_toNat (by omega), by simp [progressWord, progressImage], by simp [progressWord, progressImage]⟩
    all_goals simp [State.channelWord, otherBits, bit_faultBits_other]
  · have counted : (BitVec.ofNat 5 e.length).toNat = e.length := ofNat_toNat 5 (by omega)
    have retries : (BitVec.ofNat 4 e.retries).toNat = e.retries := ofNat_toNat 4 (by omega)
    have placed : (BitVec.ofNat 4 rank).toNat = rank := ofNat_toNat 4 (by omega)
    refine ⟨?mark, ?requester, ?tag, ?kind, ?window, ?port, ?posted, ?waits, ?issued, ?writes, ?address, ?length, ?retried, ?rank⟩
    case kind => cases body : e.body <;> simp [TrackEntry.word, ReqBody.kind, ReqKind.code, body]
    case waits =>
      intro waiting
      simp [TrackEntry.word, State.timeWord, EntryState.isIssued, waiting]
    case issued =>
      intro k issued
      refine ⟨by simp [TrackEntry.word, EntryState.isIssued, issued], by simp [TrackEntry.word, EntryState.slotField, issued],
        fun h cmd x slot small => ?_⟩
      simp only [State.timeWord, issued, slot, Slot.timeLeft, num_toNat small]
    case writes => simp [TrackEntry.word, writing_eq]
    case length => simpa using counted
    case retried => simpa using retries
    case rank => simpa using placed
    all_goals simp [TrackEntry.word]
  · refine ⟨?mode, ?stops, ?timer, ?wake, ?queue, ?tracking, ?units, ?engine, ?period, ?left⟩
    case mode => cases mode : s.mc.mode <;> simp [State.modeWord, Mode.code, mode]
    case timer => cases timer : s.mc.timer <;> simp [State.modeWord, SupervisionTimer.code, timer]
    case left =>
      intro x running small
      rw [running]
      exact num_toNat small
    all_goals simp [State.modeWord]
  · have count : (BitVec.ofNat 16 r.resetCount).toNat = r.resetCount := ofNat_toNat 16 (by omega)
    refine ⟨?last, ?previous, ?mode, ?count, ?result⟩
    case last => cases last : r.last <;> simp [CauseRecord.word, causeCode, last]
    case previous => rcases previous : r.previous with _ | _ | _ | _ <;> simp [CauseRecord.word, causeCode, previous]
    case mode =>
      rcases mode : r.modeAtReset with _ | _ | _ | _ | _ | _ <;> simp [CauseRecord.word, modeOrNone, Mode.code, mode]
    case count => simpa [CauseRecord.word] using count
    case result =>
      rw [num_toNat r.bootResult.code_lt]
      cases r.bootResult <;> rfl

end Sys2Proof.Machine
end

section
/-! PROOFS. What a port serves (chapter 4): the issue of the upstream entry, and the order of the arbiter's candidates. -/

namespace Sys2Proof.Machine

/-! ## Issue (R54, R66, R78, R84, R85) -/

/-- The port that issues an upstream entry, field by field. -/
theorem Port.issueEntry_eq {q : Port} {e : TrackEntry} {k : SlotId} {ks : List SlotId} (order : q.freeOrder = k :: ks) :
    { (q.issueIn k (.tracking e.index) e.command).lockFor e with turn := .copy } =
      { q.issued k ks (.tracking e.index) e.command with
        lock := match e.body with
          | .swap _ _ => some e.index
          | _ => q.lock
        turn := .copy } := by
  have tail : q.freeOrder.tail = ks := by rw [order, List.tail_cons]
  simp only [Port.lockFor, Port.issueIn, Port.sendIn, Port.issued, tail]
  cases e.body <;> rfl

/-- The access command of an entry, by its kind and phase (R54). -/
theorem TrackEntry.command_eq (e : TrackEntry) : e.command =
    match e.body, e.phase with
    | .read, _ => .read e.physAddr e.length
    | .write d, _ => .write e.physAddr d
    | .swap _ n, some (.writeHalf _) => .write e.physAddr [n]
    | .swap _ _, _ => .read e.physAddr 1 := by
  unfold TrackEntry.command
  cases e.body <;> rcases e.phase with _ | _ | _ <;> rfl

/-- Settles O32: the arbiter serves the entry that it has chosen, in the head free slot. -/
theorem issueOfTheUpstreamEntry : Obligations.IssueOfTheUpstreamEntry := by
  intro s p e k ks chosen order
  obtain ⟨-, -, -, -, issues⟩ := exec_serve s p
  have served : s.serve p = s.issueEntry p e k := by simp only [State.serve, chosen, order]
  rw [issues e chosen, served, State.issueEntry,
    State.updPort_eq (s := s.updEntry e.index _) (Port.issueEntry_eq (q := s.port p) (e := e) order), TrackEntry.command_eq]
  cases e.body <;> rcases e.phase with _ | _ | _ <;> rfl

/-! ## Candidates (R83, R84, R86, R104, R116) -/

/-- The oldest WAITING entry of a port (R83). -/
theorem State.oldestWaiting_iff {s : State} {p : PortId} {e : TrackEntry} : s.oldestWaiting p = some e ↔
    ∃ older younger, s.tracking = older ++ e :: younger ∧ e.port = p ∧ e.state = .waiting ∧
      ∀ x ∈ older, ¬ (x.port = p ∧ x.state = .waiting) := by
  simp only [State.oldestWaiting, List.find?_eq_some_iff_append, Bool.and_eq_true, beq_iff_eq, Bool.not_eq_true', Bool.and_eq_false_iff,
    beq_eq_false_iff_ne, not_and_or]
  constructor
  · rintro ⟨⟨port, waiting⟩, older, younger, table, first⟩
    exact ⟨older, younger, table, port, waiting, first⟩
  · rintro ⟨older, younger, table, port, waiting, first⟩
    exact ⟨⟨port, waiting⟩, older, younger, table, first⟩

/-- The entry with an index (R51). -/
theorem State.entry_iff {s : State} {i : TrackIdx} {e : TrackEntry} : s.entry? i = some e ↔
    ∃ older younger, s.tracking = older ++ e :: younger ∧ e.index = i ∧ ∀ x ∈ older, x.index ≠ i := by
  simp only [State.entry?, List.find?_eq_some_iff_append, beq_iff_eq, Bool.not_eq_true', beq_eq_false_iff_ne]
  constructor
  · rintro ⟨index, older, younger, table, first⟩
    exact ⟨older, younger, table, index, first⟩
  · rintro ⟨older, younger, table, index, first⟩
    exact ⟨index, older, younger, table, first⟩

/-- The ready half of a class: that of C0 before that of C1 (R83, R84). -/
theorem State.copyReady_iff {s : State} {p : PortId} {b : Bool} {c : ChannelId} : s.copyReady p b = some c ↔
    (s.offersTo c p = true ∧ (s.channel c).continuous = b) ∧
      (c = 1 → ¬ (s.offersTo 0 p = true ∧ (s.channel 0).continuous = b)) := by
  by_cases first : s.offersTo 0 p = true ∧ (s.channel 0).continuous = b
  · fin_cases c <;> simp [State.copyReady, first]
  · by_cases second : s.offersTo 1 p = true ∧ (s.channel 1).continuous = b <;>
      fin_cases c <;> simp [State.copyReady, first, second]

theorem Channel.continuous_iff {ch : Channel} : ch.continuous = true ↔ ∃ cur, ch.current = some cur ∧ cur.desc.pacing = .continuous := by
  rcases current : ch.current with _ | cur <;> simp [Channel.continuous, current]

theorem State.bootOffers_iff {s : State} : s.bootOffers = true ↔
    s.mc.mode = .booting ∧ s.boot.phase ≠ .finished ∧ ∀ r, s.boot.inFlight = some r → r.state = .waiting := by
  rcases read : s.boot.inFlight with _ | r <;> simp [State.bootOffers, read, and_assoc]

theorem Upkeep.offers_iff {u : Upkeep} : u.offers = true ↔
    (∃ a, u.inFlight = some a ∧ a.state = .waiting) ∨ (u.inFlight = none ∧ u.pending = true) := by
  rcases flight : u.inFlight with _ | a <;> simp [Upkeep.offers, flight]

theorem Slot.isIssued_iff {x : Slot} : x.isIssued = true ↔ ∃ h cmd t, x = .issued h cmd t := by
  cases x <;> simp [Slot.isIssued]

/-- Some slot is ISSUED (R80). -/
theorem Port.anyIssued_slot (q : Port) : q.anyIssued = true ↔ ∃ k h cmd x, q.slot k = .issued h cmd x := by
  simp only [Port.anyIssued_iff, Slot.isIssued_iff]

/-! ## The order of the candidates (R82 to R86) -/

/-- Under a SWAP lock only the entry that holds it (R85). -/
theorem State.arbiterChoice_locked {s : State} {p : PortId} {i : TrackIdx} (listening : s.resetn = false)
    (active : (s.port p).state = .active) (lock : (s.port p).lock = some i) : s.arbiterChoice p =
      (s.entry? i).bind fun e => if e.state = .waiting ∧ (s.port p).freeOrder ≠ [] then some (.upstream e) else none := by
  simp only [State.arbiterChoice, listening, active, lock]
  cases s.entry? i <;> simp

/-- Without a lock, the upkeep, the hold request, the boot read, and what shares the turn (R83, R86). -/
theorem State.arbiterChoice_unlocked {s : State} {p : PortId} (listening : s.resetn = false) (active : (s.port p).state = .active)
    (lock : (s.port p).lock = none) : s.arbiterChoice p =
      if (s.port p).upkeep.offers = true ∧ (s.port p).freeOrder ≠ [] then some .upkeep
      else if (s.port p).holdRequest = true then some .hold
      else if (s.port p).freeOrder = [] then none
      else if p = 0 ∧ s.bootOffers = true then some .boot
      else s.sharedChoice p := by
  simp [State.arbiterChoice, listening, active, lock]

/-- A waiting SWAP read half waits for the ISSUED slots of its port, and bars every other access (R85). -/
theorem State.sharedChoice_swap {s : State} {p : PortId} {e : TrackEntry} (waits : s.oldestWaiting p = some e)
    (swap : e.phase = some .readHalf) : s.sharedChoice p = if (s.port p).anyIssued then none else some (.upstream e) := by
  simp [State.sharedChoice, waits, TrackEntry.isSwapRead, swap]

/-- Otherwise CONTINUOUS halves come first, and then the shared turn (R83, R84). -/
theorem State.sharedChoice_other {s : State} {p : PortId} (other : ∀ e, s.oldestWaiting p = some e → e.phase ≠ some .readHalf) :
    s.sharedChoice p =
      match s.copyReady p true with
      | some c => some (.copy c)
      | none =>
        match (s.port p).turn with
        | .copy => ((s.copyReady p false).map Candidate.copy).or ((s.oldestWaiting p).map Candidate.upstream)
        | .upstream => ((s.oldestWaiting p).map Candidate.upstream).or ((s.copyReady p false).map Candidate.copy) := by
  have noSwap : (s.oldestWaiting p).any TrackEntry.isSwapRead = false := by
    rcases waits : s.oldestWaiting p with _ | e
    · rfl
    · simp [TrackEntry.isSwapRead, other e waits]
  cases ready : s.copyReady p true <;> cases turn : (s.port p).turn <;> simp [State.sharedChoice, noSwap, ready, turn]

/-- Settles O33: each candidate is characterised, and the choice goes through them in their order. -/
theorem arbiterOrder : Obligations.ArbiterOrder := by
  intro s p
  refine ⟨fun e => State.oldestWaiting_iff, fun i e => State.entry_iff, fun b c => State.copyReady_iff, fun c => Channel.continuous_iff,
    State.bootOffers_iff, Upkeep.offers_iff, Port.anyIssued_slot _, fun off => ?off, fun listening active => ⟨fun i lock => ⟨?entry, ?busy⟩,
      fun lock => ⟨fun slots upkeep => ?upkeep, fun none hold => ?hold, fun noHold full => ?full,
        fun noUpkeep noHold slots => ⟨fun port boot => ?boot, fun noBoot => ⟨fun e waits swap => ?swap, fun other => ⟨fun c ready => ?ready,
          fun notReady => ⟨fun c turn offered => ?copy, fun e turn waits => ?upstream, fun noCopy noEntry => ?nothing⟩⟩⟩⟩⟩⟩⟩
  case off =>
    rcases off with reset | inactive
    · simp [State.arbiterChoice, reset]
    · exact State.arbiterChoice_of_state inactive
  case entry =>
    intro e entry waits slots
    simp [State.arbiterChoice_locked listening active lock, entry, waits, slots]
  case busy =>
    intro busy
    rw [State.arbiterChoice_locked listening active lock]
    rcases entry : s.entry? i with _ | e
    · rfl
    · rcases busy with busy | full
      · simp [busy e entry]
      · simp [full]
  case upkeep => simp [State.arbiterChoice_unlocked listening active lock, slots, upkeep]
  case hold =>
    rw [State.arbiterChoice_unlocked listening active lock, if_neg, if_pos hold]
    rcases none with full | noUpkeep <;> simp [*]
  case full => simp [State.arbiterChoice_unlocked listening active lock, full, noHold]
  case boot =>
    rw [State.arbiterChoice_unlocked listening active lock, if_neg (by simp [noUpkeep]), if_neg (by simp [noHold]), if_neg slots,
      if_pos ⟨port, boot⟩]
  all_goals
    have shared : s.arbiterChoice p = s.sharedChoice p := by
      rcases noBoot with other | noBoot <;> simp [State.arbiterChoice_unlocked listening active lock, *]
    rw [shared]
  case swap => exact State.sharedChoice_swap waits swap
  case ready => rw [State.sharedChoice_other other, ready]
  case copy =>
    rw [State.sharedChoice_other other, notReady]
    rcases turn with turn | noEntry
    · simp [turn, offered]
    · cases (s.port p).turn <;> simp [noEntry, offered]
  case upstream =>
    rw [State.sharedChoice_other other, notReady]
    rcases turn with turn | noCopy
    · simp [turn, waits]
    · cases (s.port p).turn <;> simp [noCopy, waits]
  case nothing =>
    rw [State.sharedChoice_other other, notReady]
    cases (s.port p).turn <;> simp [noCopy, noEntry]

end Sys2Proof.Machine
end

section
/-! PROOFS. How tracking entries end (chapter 3): completions, the two halves of a SWAP, timeouts, and late and stray completions. -/

namespace Sys2Proof.Machine

/-! ## The end of an entry (R71) -/

/-- The end of an entry of port p: its answer, its slot if it is ISSUED, the entry, and then the install and the dispatch (R71). -/
theorem State.endEntry_gone (t : State) {p : PortId} {e : TrackEntry} (port : e.port = p) (x : EntryEnd) :
    t.endEntry e x =
      ((((t.answerEntry e x).updPort p fun q => q.releaseFrom e).entryGone p e).installPending).dispatchAll := by
  subst port
  have unlocked : (fun q : Port => (q.releaseFrom e).unlock e.index) =
      fun q => { q.releaseFrom e with lock := if (q.releaseFrom e).lock = some e.index then none else (q.releaseFrom e).lock } := by
    funext q
    simp only [Port.unlock]
    split
    · rfl
    · rfl
  rw [State.endEntry, unlocked, State.installPending_reportTracking]
  refine congrArg (fun s => State.dispatchAll (State.installPending s)) ?_
  rw [← State.updPort_updPort _ e.port (fun q => q.releaseFrom e)
    fun q => { q with lock := if q.lock = some e.index then none else q.lock }]
  rfl

/-- An answer leaves the ports alone (R69, R70). -/
theorem State.answerEntry_port (t : State) (e : TrackEntry) (x : EntryEnd) : (t.answerEntry e x).port = t.port := by
  unfold State.answerEntry
  split
  · cases x <;> rfl
  · rfl

/-- An entry whose slot is not ISSUED any more ends in a fault (R61, R71). -/
theorem State.endEntry_released {s t : State} {p : PortId} {e : TrackEntry} (port : e.port = p)
    (released : (t.port p).releaseFrom e = t.port p) (windows : t.windows = s.windows) (notices : t.nu = s.nu) (r : Reason) :
    t.endEntry e (.fault r) = ((t.entryGone p e).faultAnswered s e r).installPending.dispatchAll := by
  rw [State.endEntry_gone t port, State.updPort_same (by rw [State.answerEntry_port]; exact released),
    State.answerEntry_fault t s e r windows notices]
  simp only [State.faultAnswered]
  split <;> rfl

/-! ## Completions (R57 to R60) -/

/-- A RETRY is counted and the slot freed (R60, R98). -/
theorem State.retried_eq (s : State) (p : PortId) (k : SlotId) :
    (s.updPort p Port.countRetry).slotFreed p k = s.slotRetried p k := by
  simp only [State.slotFreed, State.slotRetried, State.port, State.updPort, Port.countRetry]
  simp

/-- A RETRY within the limit: the entry waits again in its place in dispatch order (R60). -/
theorem State.retryEntry_within {s : State} {p : PortId} {e : TrackEntry} {k : SlotId}
    (within : e.retries < (s.port p).config.retryLimit.toNat) : s.retryEntry p e k =
      { s.slotRetried p k with
        tracking := s.tracking.map fun x =>
          if x.index = e.index then { x with state := .waiting, retries := x.retries + 1 } else x } := by
  rw [State.retryEntry, if_pos within, ← State.retried_eq]
  rfl

/-- What a completion of an entry in its slot leaves is completed by what follows (R42, R71). -/
theorem exec_completion_ends {s t : State} {p : PortId} {k : SlotId} {e : TrackEntry} {st : CompletionStatus} {data : List Word}
    (held : EntryInSlot s p k e) (ends : s.completeEntry p e k st data = t.installPending.dispatchAll) :
    exec (.completion p k st data) s = .next t.afterEnd := by
  rw [exec_completion_entry held, ends]
  rfl

/-- Settles O34: the end of the entry by its kind and the status. -/
theorem entryCompletes : Obligations.EntryCompletes := by
  intro s p k e data held
  refine ⟨fun read unposted whole => ?_, fun read part => ?_, fun d write unposted => ?_, fun d write posted => ?_, ?_, fun within => ?_,
    fun beyond => ?_⟩
  · refine exec_completion_ends held ?_
    rw [State.completeEntry, State.okEntry, read]
    simp only [whole, if_true]
    exact State.endEntry_ok held data none unposted
  · refine exec_completion_ends held ?_
    rw [State.completeEntry, State.okEntry, read]
    simp only [part, if_false]
    exact State.endEntry_fault held rfl rfl rfl _
  · refine exec_completion_ends held ?_
    rw [State.completeEntry, State.okEntry, write]
    exact State.endEntry_ok held [] none unposted
  · refine exec_completion_ends held ?_
    have silent : s.answerEntry e (.ok [] none) = s := by rw [State.answerEntry, if_pos posted]
    rw [State.completeEntry, State.okEntry, write]
    exact (State.endEntry_held s s p k e _ held rfl).trans (by rw [silent])
  · exact exec_completion_ends held (State.endEntry_fault held rfl rfl rfl _)
  · rw [exec_completion_entry held]
    exact congrArg (fun t => Host.Outcome.next (State.followUp t)) (State.retryEntry_within within)
  · refine exec_completion_ends held ?_
    rw [State.completeEntry, State.retryEntry, if_neg (Nat.not_lt.2 beyond),
      State.endEntry_fault (t := s.updPort p Port.countRetry) held (by simp; rfl) rfl rfl, State.retried_eq]

/-! ## The halves of a SWAP (R58, R66, R67) -/

/-- A SWAP is answered with a RESPONSE (R69, R70). -/
theorem State.faultAnswered_unposted {t s : State} {e : TrackEntry} (unposted : e.posted = false) (r : Reason) :
    t.faultAnswered s e r = t.responded (e.faultResponse r) := by rw [State.faultAnswered, if_neg (by simp [unposted])]

/-- An OK for a SWAP in its read half (R58, R66, R67). -/
theorem State.okEntry_readHalf {s : State} {p : PortId} {e : TrackEntry} {k : SlotId} {compare new : Word}
    (swap : e.body = .swap compare new) (phase : e.phase = some .readHalf) (data : List Word) : s.okEntry p e k data =
      match data with
      | [w] => if w = compare then s.startWriteHalf p e k new w else s.endEntry e (.ok [w] (some false))
      | _ => s.endEntry e (.fault .segmentError) := by
  rcases data with _ | ⟨_, _ | _⟩ <;> simp only [State.okEntry, swap, phase]

/-- Settles O35: the compare in the read half, and the end of the write half. -/
theorem swapHalves : Obligations.SwapHalves := by
  intro s p k e data compare new held swap unposted
  refine ⟨fun w phase one differs => ?_, fun phase one => ?_, fun phase many => ?_, fun old phase => ?_⟩
  · refine exec_completion_ends held ?_
    subst one
    rw [State.completeEntry, State.okEntry_readHalf swap phase]
    simp only [differs, if_false]
    exact State.endEntry_ok held [w] (some false) unposted
  · subst one
    rw [exec_completion_entry held, State.completeEntry, State.okEntry_readHalf swap phase]
    simp only [if_true]
    rfl
  · refine exec_completion_ends held ?_
    rw [State.completeEntry, State.okEntry_readHalf swap phase, ← State.faultAnswered_unposted unposted (s := s),
      ← State.endEntry_fault held rfl rfl rfl]
    rcases data with _ | ⟨_, _ | _⟩
    · rfl
    · exact absurd rfl many
    · rfl
  · refine exec_completion_ends held ?_
    rw [State.completeEntry, State.okEntry, swap, phase]
    exact State.endEntry_ok held [old] (some true) unposted

/-! ## Timeouts, late and stray completions (R61, R64, R65, R76, R77, R79) -/

theorem Slot.expired_iff (x : Slot) : x.expired = true ↔ ∃ h cmd, x = .issued h cmd 0 := by
  cases x <;> simp [Slot.expired]

/-- A timer with time left does not expire (log 3). -/
theorem exec_issueTimerExpiry_same {s : State} {p : PortId} {k : SlotId} (notDue : ((s.port p).slot k).expired = false) :
    exec (.issueTimerExpiry p k) s = .next s := by
  simp only [exec, execIssueTimerExpiry]
  split
  next h cmd slot => simp [slot, Slot.expired] at notDue
  · rfl

/-- A slot that lingers is not the entry's any more (R61). -/
theorem Port.releaseFrom_lingering {q : Port} {e : TrackEntry} {k : SlotId} (issued : e.state = .issued k)
    (lingers : q.slot k = .lingering) : q.releaseFrom e = q := by simp [Port.releaseFrom, issued, lingers, Slot.isIssued]

/-- The slot whose timer has run out lingers (R79). -/
theorem State.slotTimedOut_slot (s : State) (p : PortId) (k : SlotId) : ((s.slotTimedOut p k).port p).slot k = .lingering := by
  simp [State.slotTimedOut, State.port, Port.slot]

/-- A timeout of an entry in its slot (R61, R71, R79). -/
theorem State.timeoutHolder_entry {s : State} {p : PortId} {k : SlotId} {e : TrackEntry} (held : EntryInSlot s p k e) :
    (s.slotTimedOut p k).timeoutHolder p (.tracking e.index) =
      (((s.slotTimedOut p k).entryGone p e).faultAnswered s e .timeout).installPending.dispatchAll := by
  have found : (s.slotTimedOut p k).entry? e.index = some e := held.entry
  have released := Port.releaseFrom_lingering held.issued (State.slotTimedOut_slot s p k)
  simp only [State.timeoutHolder, found]
  exact State.endEntry_released held.port released rfl rfl _

/-- A completion while the part listens (R76, R77). -/
theorem exec_completion_listening {s : State} (listening : s.resetn = false) (p : PortId) (k : SlotId) (st : CompletionStatus)
    (data : List Word) : exec (.completion p k st data) s = .next (s.complete p k st data) :=
  congrArg Host.Outcome.next (State.unlessReset_off listening _)

/-- Settles O36: each case of a timeout, of a completion that no access waits for, and of the stall test. -/
theorem timeoutsLateAndStrayCompletions : Obligations.TimeoutsLateAndStrayCompletions := by
  refine ⟨Slot.expired_iff, fun s p k st data => ⟨fun e held ran => ?_, exec_issueTimerExpiry_same, fun listening resetting => ?_,
    fun listening other lingers => ?_, fun listening other free => ?_, fun linger unreported => ?_, fun calm => ?_⟩⟩
  · rw [exec_timeout_held held.held ran, State.timeoutHolder_entry held]
  · rw [exec_completion_listening listening, State.complete, if_pos resetting]
    rfl
  · rw [exec_completion_listening listening, State.complete, if_neg other, lingers]
    rfl
  · rw [exec_completion_listening listening, State.complete, if_neg other, free]
    rfl
  · rw [State.stallTest, if_pos (by simp [(Port.stalled_iff _).2 linger, unreported])]
    rfl
  · rw [State.stallTest, if_neg]
    rcases calm with ⟨j, other⟩ | reported
    · have moves : (s.port p).stalled = false := by
        rw [← Bool.not_eq_true, Port.stalled_iff]
        exact fun all => other (all j)
      simp [moves]
    · simp [reported]

end Sys2Proof.Machine
end

section
/-! PROOFS. The port commands and the lines of a port (chapter 4): settings, PORT ENABLE and PORT DISABLE, hold handover, the ends of a
settle and of a reset pulse. -/

namespace Sys2Proof.Machine

/-! ## Port records (R94, 12.5) -/

/-- The configuration in the fields of a port record (12.5). -/
def portRecordFields (a b : Word) : PortConfig where
  accessTimeout := field a 4 3
  retryLimit := field a 8 4
  resetPulse := field a 16 8
  holdLimit := field a 24 8
  interval := field b 0 4
  rowLimit := field b 16 11

/-- A port record gives its fields when its zero bits are zero and the fields lie in their values (R94, R190). -/
theorem portRecord_eq (a b : Word) : portRecord a b =
    if a &&& 0x0000F08C = 0 ∧ b &&& 0xF800FFF0 = 0 ∧ 1 ≤ (field a 16 8).toNat ∧ (field b 0 4).toNat ≤ 8 ∧
        1 ≤ (field b 16 11).toNat ∧ (field b 16 11).toNat ≤ 1024 then some (portRecordFields a b)
    else none := by
  have nonzero : ∀ {n : Nat} (x : BitVec n), x ≠ 0 ↔ 1 ≤ x.toNat := fun x => by
    rw [Nat.one_le_iff_ne_zero, ne_eq, ne_eq, BitVec.toNat_eq, show (0 : BitVec _).toNat = 0 from BitVec.toNat_zero]
  refine if_congr ?_ rfl rfl
  simp only [zeroUnder, Bool.and_eq_true, beq_iff_eq, bne_iff_ne, decide_eq_true_eq, nonzero, BitVec.le_def, and_assoc]
  rfl

/-- What a port record gives (R94, R190). -/
theorem portRecord_iff (a b : Word) (c : PortConfig) : portRecord a b = some c ↔
    a &&& 0x0000F08C = 0 ∧ b &&& 0xF800FFF0 = 0 ∧
      c.accessTimeout = field a 4 3 ∧ c.retryLimit = field a 8 4 ∧ c.resetPulse = field a 16 8 ∧ c.holdLimit = field a 24 8 ∧
      c.interval = field b 0 4 ∧ c.rowLimit = field b 16 11 ∧
      1 ≤ c.resetPulse.toNat ∧ c.interval.toNat ≤ 8 ∧ 1 ≤ c.rowLimit.toNat ∧ c.rowLimit.toNat ≤ 1024 := by
  rw [portRecord_eq]
  constructor
  · intro record
    split at record
    next valid =>
      obtain rfl := Option.some.inj record
      obtain ⟨zeroA, zeroB, one, eight, row, most⟩ := valid
      exact ⟨zeroA, zeroB, rfl, rfl, rfl, rfl, rfl, rfl, one, eight, row, most⟩
    · cases record
  · rintro ⟨zeroA, zeroB, timeout, retry, reset, hold, code, limit, one, eight, row, most⟩
    rw [reset] at one
    rw [code] at eight
    rw [limit] at row most
    rw [if_pos ⟨zeroA, zeroB, one, eight, row, most⟩, portRecordFields, ← timeout, ← retry, ← reset, ← hold, ← code, ← limit]

/-! ## Timers (R88, R100) -/

/-- The interval timer as it starts (R100). -/
theorem freshInterval_eq (code : BitVec 4) : freshInterval code =
    if code = 0 then none
    else some { left := Config.intervalTenths code / 10, remainder := Config.intervalTenths code % 10 } := rfl

/-- The hold limit timer as it starts (R88). -/
theorem Port.freshHoldTimer_eq (q : Port) : q.freshHoldTimer =
    if q.config.holdLimit = 0 then none else some (q.config.holdLimit.toNat * 1000) := rfl

theorem Port.intervalRuns_iff (q : Port) : q.intervalRuns = false ↔ q.state = .disabled ∨ q.state = .stopped := by
  cases state : q.state <;> simp [Port.intervalRuns, state]

/-! ## What the port commands make of a port (R94 to R96) -/

/-- A port with a new configuration (R94, R108, R109). -/
theorem Port.configure_eq (q : Port) (c : PortConfig) : q.configure c =
    { q with
      config := c
      upkeep := { q.upkeep with
        rowCounter := if c.rowLimit = q.config.rowLimit then q.upkeep.rowCounter else 0
        timer :=
          if c.interval = q.config.interval then q.upkeep.timer
          else if c.interval = 0 ∨ q.state = .disabled ∨ q.state = .stopped then none
          else some { left := Config.intervalTenths c.interval / 10, remainder := Config.intervalTenths c.interval % 10 } } } := by
  simp only [Port.configure, freshInterval_eq, ← Port.intervalRuns_iff]
  cases q.intervalRuns <;> by_cases off : c.interval = 0 <;> simp [off]

/-- A DISABLED port that is enabled (R78, R95, R103). -/
theorem Port.enable_eq (q : Port) (m : Mode) : q.enable (m == .stop) =
    { q with
      state := if q.holdRequest then .held else if m = .stop then .stopped else .active
      slots := #v[.free, .free, .free, .free]
      freeOrder := [0, 1, 2, 3]
      holdTimer :=
        if q.holdRequest then (if q.config.holdLimit = 0 then none else some (q.config.holdLimit.toNat * 1000)) else q.holdTimer
      upkeep := { q.upkeep with
        timer :=
          if q.holdRequest = false ∧ m = .stop then q.upkeep.timer
          else if q.config.interval = 0 then none
          else some
            { left := Config.intervalTenths q.config.interval / 10
              remainder := Config.intervalTenths q.config.interval % 10 } } } := by
  simp only [Port.enable, Port.clearSlots, Port.enterHeld, Port.startInterval, Port.freshHoldTimer_eq, freshInterval_eq]
  cases q.holdRequest <;> by_cases stop : m = .stop <;> simp [stop]

/-- A pending upkeep that is cleared as missed (R102, R103). -/
theorem Upkeep.clearMissed_eq (u : Upkeep) : u.clearMissed =
    { u with pending := false, missed := if u.pending then u.missed + 1 else u.missed } := by
  cases u with | mk timer pending => cases pending <;> rfl

/-- A pending upkeep that is discarded as suppressed (R88). -/
theorem Upkeep.clearSuppressed_eq (u : Upkeep) : u.clearSuppressed =
    { u with pending := false, suppressed := if u.pending then u.suppressed + 1 else u.suppressed } := by
  cases u with | mk timer pending => cases pending <;> rfl

/-- A port that is disabled (R96, R103). -/
theorem Port.disable_eq (q : Port) : q.disable =
    { q with
      state := .disabled
      stallReport := false
      upkeep := { q.upkeep with
        timer := none
        pending := false
        missed := if q.upkeep.pending then q.upkeep.missed + 1 else q.upkeep.missed } } := by
  rw [Port.disable, Upkeep.clearMissed_eq]

/-- Some slot is not free (R96). -/
theorem Port.anyOccupied_iff (q : Port) : q.anyOccupied = true ↔ ∃ k, q.slot k ≠ .free := by
  simp only [Port.anyOccupied, Bool.or_eq_true, bne_iff_ne]
  constructor
  · rintro (((used | used) | used) | used)
    exacts [⟨0, used⟩, ⟨1, used⟩, ⟨2, used⟩, ⟨3, used⟩]
  · rintro ⟨k, used⟩
    fin_cases k <;> simp_all

/-- What bars PORT DISABLE (R96, R103). -/
theorem State.portInUse_iff (s : State) (p : PortId) : s.portInUse p = true ↔
    (∃ e ∈ s.requestQueue, (s.window e.window).contents.port = p) ∨ (∃ e ∈ s.tracking, e.port = p) ∨
      (∃ c, (s.channel c).names p = true) ∨ (∃ k, (s.port p).slot k ≠ .free) ∨ (s.port p).upkeep.inFlight ≠ none := by
  simp only [State.portInUse, Bool.or_eq_true, List.any_eq_true, beq_iff_eq, Port.anyOccupied_iff, Fin.exists_fin_two,
    Option.isSome_iff_ne_none, or_assoc]

theorem PortState.barsDisable_iff (x : PortState) : x.barsDisable = false ↔ x = .active ∨ x = .stopped := by
  cases x <;> simp [PortState.barsDisable]

/-! ## Port commands on the port named (R94 to R96) -/

section
variable {s : State} {f : MgmtFrame} {p : PortId} (names : f.word 0 = BitVec.ofNat 32 p.val)
include names

theorem portConfigureAct_port : portConfigureAct f s =
    match configureOperands f with
    | none => (s, .refused .range)
    | some c => (s.updPort p fun q => q.configure c, .ok []) := by
  rw [portConfigureAct, onPort_port _ names]
  cases configureOperands f <;> rfl

theorem portEnableAct_port : portEnableAct f s =
    if (s.port p).state = .disabled then (s.updPort p fun q => q.enable (s.mc.mode == .stop), .done) else (s, .refused .state) :=
  onPort_port _ names

theorem portDisableAct_port : portDisableAct f s =
    if (s.port p).state.barsDisable then (s, .refused .state)
    else if s.portInUse p then (s, .refused .busy)
    else (s.updPort p Port.disable, .ok []) := onPort_port _ names

end

/-- The configuration that PORT CONFIGURE supplies (R94). -/
theorem configureOperands_eq (f : MgmtFrame) : configureOperands f =
    if field (f.word 1) 0 2 = 0 then portRecord (f.word 1) (f.word 2) else none := rfl

/-- A port command that is answered OK with one port changed (R160). -/
theorem exec_portCommand_ok {s : State} {f : MgmtFrame} {m : Command} {n : Nat} {act : Act} {p : PortId} {g : Port → Port} {q : Port}
    (accepted : CommandAccepted s f n) (acts : act f (s.answerDeferred f m) = ((s.answerDeferred f m).updPort p g, .ok []))
    (port : g (s.port p) = q) :
    s.manage m n f act = { s.answeredOk f m [] with ports := s.ports.set p q } := by
  rw [State.updPort_eq (s := s.answerDeferred f m) port] at acts
  exact State.manage_ok s _ m n f act [] accepted acts rfl

/-- A port command that gives other blocks something to do in the same event, with one port changed (R160). -/
theorem exec_portCommand_done {s : State} {f : MgmtFrame} {m : Command} {n : Nat} {act : Act} {p : PortId} {g : Port → Port} {q : Port}
    (accepted : CommandAccepted s f n) (acts : act f (s.answerDeferred f m) = ((s.answerDeferred f m).updPort p g, .done))
    (port : g (s.port p) = q) :
    s.manage m n f act = State.followUp { s.answeredOk f m [] with ports := s.ports.set p q } := by
  rw [State.updPort_eq (s := s.answerDeferred f m) port] at acts
  refine (State.manage_done s _ m n f act accepted acts rfl).trans (congrArg State.followUp ?_)
  rfl

/-- The use of a port does not depend on how the command was received. -/
theorem State.portInUse_answerDeferred (s : State) (f : MgmtFrame) (c : Command) (p : PortId) :
    (s.answerDeferred f c).portInUse p = s.portInUse p := rfl

/-- Settles O37: the record, the times that its codes stand for, and what the three commands make of the port. -/
theorem portSettings : Obligations.PortSettings := by
  refine ⟨portRecord_iff, by decide, fun f s p => ⟨fun c accepted names clear record => ?_, fun accepted names bad => ?_,
    fun accepted names => ⟨fun disabled => ?_, fun other => ?_, fun notActive notStopped => ?_, fun state used => ?_,
      fun state queue table channels slots upkeep => ?_⟩⟩⟩
  · have act := portConfigureAct_port (s := s.answerDeferred f .portConfigure) names
    simp only [configureOperands_eq, if_pos clear, record] at act
    exact congrArg Host.Outcome.next (exec_portCommand_ok accepted act (Port.configure_eq _ _))
  · have act := portConfigureAct_port (s := s.answerDeferred f .portConfigure) names
    have none : configureOperands f = none := by
      rw [configureOperands_eq]
      rcases bad with set | none
      · rw [if_neg set]
      · rw [none, ite_self]
    simp only [none] at act
    exact congrArg Host.Outcome.next (State.manage_refused s .portConfigure 3 f _ _ accepted act)
  · have act := portEnableAct_port (s := s.answerDeferred f .portEnable) names
    rw [if_pos (by simpa using disabled)] at act
    exact congrArg Host.Outcome.next (exec_portCommand_done accepted act (Port.enable_eq _ _))
  · have act := portEnableAct_port (s := s.answerDeferred f .portEnable) names
    rw [if_neg (by simpa using other)] at act
    exact congrArg Host.Outcome.next (State.manage_refused s .portEnable 1 f _ _ accepted act)
  · have act := portDisableAct_port (s := s.answerDeferred f .portDisable) names
    have bars : (s.port p).state.barsDisable = true := by
      rw [← Bool.not_eq_false, PortState.barsDisable_iff]
      exact not_or.2 ⟨notActive, notStopped⟩
    rw [if_pos (by simpa using bars)] at act
    exact congrArg Host.Outcome.next (State.manage_refused s .portDisable 1 f _ _ accepted act)
  · have act := portDisableAct_port (s := s.answerDeferred f .portDisable) names
    have allows := (PortState.barsDisable_iff _).2 state
    rw [if_neg (by simp [allows]), State.portInUse_answerDeferred, if_pos ((s.portInUse_iff p).2 used)] at act
    exact congrArg Host.Outcome.next (State.manage_refused s .portDisable 1 f _ _ accepted act)
  · have act := portDisableAct_port (s := s.answerDeferred f .portDisable) names
    have allows := (PortState.barsDisable_iff _).2 state
    have unused : ¬ s.portInUse p = true := by
      rw [State.portInUse_iff]
      rintro (⟨e, mem, port⟩ | ⟨e, mem, port⟩ | ⟨c, named⟩ | ⟨k, used⟩ | flight)
      exacts [queue e mem port, table e mem port, absurd named (by simp [channels c]), used (slots k), flight upkeep]
    rw [if_neg (by simp [allows]), State.portInUse_answerDeferred, if_neg unused] at act
    exact congrArg Host.Outcome.next (exec_portCommand_ok accepted act (Port.disable_eq _))

/-! ## Hold handover and the ends of a settle and of a pulse (R83, R87 to R91, R93, R102) -/

/-- A port that becomes HELD at the end of a settle (R88). -/
theorem Port.becomeHeld_eq (q : Port) : q.becomeHeld =
    { q with
      state := .held
      holdTimer := if q.config.holdLimit = 0 then none else some (q.config.holdLimit.toNat * 1000)
      upkeep := { q.upkeep with
        pending := false
        suppressed := if q.upkeep.pending then q.upkeep.suppressed + 1 else q.upkeep.suppressed } } := by
  rw [Port.becomeHeld, Upkeep.clearSuppressed_eq]
  rfl

/-- A port that becomes STOPPED, and HELD at once under a hold request (R90, R91, R102). -/
theorem Port.enterStopped_eq (q : Port) : q.enterStopped =
    { q with
      state := if q.holdRequest then .held else .stopped
      holdTimer :=
        if q.holdRequest then (if q.config.holdLimit = 0 then none else some (q.config.holdLimit.toNat * 1000)) else q.holdTimer
      upkeep := { q.upkeep with
        pending := false
        missed := if q.upkeep.pending then q.upkeep.missed + 1 else q.upkeep.missed
        timer :=
          if q.holdRequest then
            (if q.config.interval = 0 then none
            else some
              { left := Config.intervalTenths q.config.interval / 10
                remainder := Config.intervalTenths q.config.interval % 10 })
          else none } } := by
  simp only [Port.enterStopped, Upkeep.clearMissed_eq, Port.stoppedToHeld, Port.enterHeld, Port.startInterval, Port.freshHoldTimer_eq,
    freshInterval_eq]
  cases q.holdRequest <;> simp

/-- A port whose hold request line becomes asserted (R87, R90). -/
theorem Port.holdAsserted_eq (q : Port) : q.holdAsserted =
    if q.state = .stopped then
      { q with
        holdRequest := true
        state := .held
        holdTimer := if q.config.holdLimit = 0 then none else some (q.config.holdLimit.toNat * 1000)
        upkeep := { q.upkeep with
          timer :=
            if q.config.interval = 0 then none
            else some
              { left := Config.intervalTenths q.config.interval / 10
                remainder := Config.intervalTenths q.config.interval % 10 } } }
    else { q with holdRequest := true } := by
  simp only [Port.holdAsserted, Port.stoppedToHeld, Port.enterHeld, Port.startInterval, Port.freshHoldTimer_eq, freshInterval_eq]
  cases state : q.state <;> simp

/-- A port whose hold request line becomes deasserted (R87, R89, R102). -/
theorem Port.holdDeasserted_eq (q : Port) (m : Mode) : q.holdDeasserted (m == .stop) =
    if q.state = .held ∧ m = .stop then
      { q with holdRequest := false, state := .stopped, holdTimer := none, upkeep := { q.upkeep with timer := none } }
    else if q.state = .held then { q with holdRequest := false, state := .active, holdTimer := none }
    else if q.state = .settling .held then
      { q with holdRequest := false, state := if m = .stop then .settling .stopped else .active }
    else { q with holdRequest := false } := by
  simp only [Port.holdDeasserted, Port.haltInterval]
  by_cases stop : m = .stop <;> rcases state : q.state with _ | _ | ⟨_ | _⟩ | _ | _ | _ <;> simp [stop]

/-- A port at the end of its reset pulse (R93, R102). -/
theorem Port.endPulse_eq (q : Port) (m : Mode) : q.endPulse (m == .stop) =
    if m = .stop then
      { q with
        state := if q.holdRequest then .held else .stopped
        pulse := none
        holdTimer :=
          if q.holdRequest then (if q.config.holdLimit = 0 then none else some (q.config.holdLimit.toNat * 1000)) else q.holdTimer
        upkeep := { q.upkeep with
          pending := false
          missed := if q.upkeep.pending then q.upkeep.missed + 1 else q.upkeep.missed
          timer :=
            if q.holdRequest then
              (if q.config.interval = 0 then none
              else some
                { left := Config.intervalTenths q.config.interval / 10
                  remainder := Config.intervalTenths q.config.interval % 10 })
            else none } }
    else { q with state := .active, pulse := none } := by
  simp only [Port.endPulse, Port.enterStopped_eq, beq_iff_eq]

/-- The deferred OK of a port reset (R93). -/
theorem State.answerPulse_eq (s : State) (a : Option Pair) : s.answerPulse a =
    { s with
      li := match a with
        | some x => { s.li with responses := s.li.responses ++ [okResponse x.1 x.2 .management []] }
        | none => s.li
      mgmtQueue := match a with
        | some x => s.mgmtQueue.map fun e =>
            if (e.requester, e.tag) = x ∧ e.phase = .deferred then { e with phase := .answered } else e
        | none => s.mgmtQueue } := by
  cases a <;> rfl

/-- Settles O39: each event of the line, of the timers and of the pulse by the state of its port. -/
theorem holdHandover : Obligations.HoldHandover := by
  intro s p q holdTimer interval
  have followed : ∀ {t u : State}, t = u → Host.Outcome.next t.followUp = (Host.Outcome.next u.followUp : Host.Outcome State Fault Refusal) :=
    fun same => by rw [same]
  refine ⟨fun chosen => ?_, fun (settling : (s.port p).state = _) (idle : (s.port p).anyIssued = _) => ?_,
    fun (settling : (s.port p).state = _) (idle : (s.port p).anyIssued = _) => ?_, fun (low : (s.port p).holdRequest = _) => ?_,
    fun (high : (s.port p).holdRequest = _) => ?_, fun (low : (s.port p).holdRequest = _) => ?_,
    fun (high : (s.port p).holdRequest = _) => ?_, fun (held : (s.port p).state = _) (ran : (s.port p).holdTimer = _) => ?_,
    fun (notDue : (s.port p).state ≠ _ ∨ (s.port p).holdTimer ≠ _) => ?_,
    fun (notDue : (s.port p).state ≠ _ ∨ ∀ a, (s.port p).pulse ≠ _) => ?_,
    fun a (resetting : (s.port p).state = _) (pulse : (s.port p).pulse = _) => ?_⟩
  · simp only [exec, execHoldTaken, chosen, if_true]
    rfl
  · simp only [exec, execPortBecomesHeld, if_pos (And.intro settling idle)]
    exact followed (State.updPort_eq (Port.becomeHeld_eq _))
  · simp only [exec, execPortBecomesStopped, if_pos (And.intro settling idle)]
    exact followed (State.updPort_eq (Port.enterStopped_eq _))
  · simp only [exec, execHoldRequestAsserted, low, Bool.false_eq_true, if_false]
    exact followed (State.updPort_eq (Port.holdAsserted_eq _))
  · simp only [exec, execHoldRequestAsserted, high, if_true]
  · simp only [exec, execHoldRequestDeasserted, low, Bool.false_eq_true, if_false]
  · simp only [exec, execHoldRequestDeasserted, high, if_true]
    exact followed (State.updPort_eq (Port.holdDeasserted_eq _ _))
  · simp only [exec, execHoldLimitExpiry, if_pos (And.intro held ran)]
    rfl
  · simp only [exec, execHoldLimitExpiry, if_neg (not_and_or.2 notDue)]
  · simp only [exec, execResetPulseExpiry]
    split
    next a state pulse => exact absurd pulse (notDue.elim (absurd state) fun none => none a)
    · rfl
  · simp only [exec, execResetPulseExpiry, resetting, pulse]
    exact followed ((congrArg (State.answerPulse · a) (State.updPort_eq (Port.endPulse_eq _ _))).trans (State.answerPulse_eq _ a))

end Sys2Proof.Machine
end

section
/-! PROOFS. PORT RESET (R92): the entries of the port end in their order, each with what its end allows, and the port is cleared. -/

namespace Sys2Proof.Machine

/-! ## What the ends of entries look at in the ports (R25, R41) -/

/-- The state with other port records. -/
def State.withPorts (s : State) (ports : Vector Port 4) : State := { s with ports := ports }

/-- Two tables of ports with the same port states: all that dispatch and the re-check look at (R25, R41). -/
def SameStates (ps qs : Vector Port 4) : Prop := ∀ p : PortId, ps[p].state = qs[p].state

theorem State.dispatchable_withPorts {s : State} {ps : Vector Port 4} (same : SameStates ps s.ports) :
    (s.withPorts ps).dispatchable = s.dispatchable := by
  funext e
  have port : ((s.withPorts ps).port (s.window e.window).contents.port).state = (s.port (s.window e.window).contents.port).state :=
    same _
  have window : (s.withPorts ps).window = s.window := rfl
  have free : (s.withPorts ps).freeIndex? = s.freeIndex? := rfl
  simp only [State.dispatchable, window, free, port]

theorem State.dispatchEntry_withPorts (s : State) (ps : Vector Port 4) (e : QueueEntry) (i : TrackIdx) :
    (s.withPorts ps).dispatchEntry e i = (s.dispatchEntry e i).withPorts ps := by
  have track : (s.withPorts ps).window e.window = s.window e.window := rfl
  simp only [State.dispatchEntry, track]
  split <;> rfl

theorem State.dispatchOne_withPorts {s : State} {ps : Vector Port 4} (same : SameStates ps s.ports) :
    (s.withPorts ps).dispatchOne = s.dispatchOne.withPorts ps := by
  have oldest : (s.withPorts ps).oldestDispatchable = s.oldestDispatchable := by
    rw [State.oldestDispatchable, State.dispatchable_withPorts same]
    rfl
  have free : (s.withPorts ps).freeIndex? = s.freeIndex? := rfl
  unfold State.dispatchOne
  rw [oldest, free]
  rcases s.oldestDispatchable with _ | e
  · rfl
  · rcases s.freeIndex? with _ | i
    · rfl
    · exact State.dispatchEntry_withPorts s ps e i

/-- Dispatch goes the same way with the same port states (R41, R42). -/
theorem State.dispatchAll_withPorts {s : State} {ps : Vector Port 4} (same : SameStates ps s.ports) :
    (s.withPorts ps).dispatchAll = s.dispatchAll.withPorts ps := by
  have iterate : ∀ n (t : State), SameStates ps t.ports →
      State.dispatchOne^[n] (t.withPorts ps) = (State.dispatchOne^[n] t).withPorts ps := by
    intro n
    induction n with
    | zero => exact fun _ _ => rfl
    | succ n ih =>
      intro t same
      have kept : t.dispatchOne.ports = t.ports := by
        unfold State.dispatchOne
        split
        · exact (State.dispatchEntry_keeps _ _ _).1
        · rfl
      rw [Function.iterate_succ_apply, State.dispatchOne_withPorts same, ih t.dispatchOne (by rw [kept]; exact same),
        Function.iterate_succ_apply]
  exact iterate _ s same

/-- The re-check of a replacement goes the same way with the same port states (R25). -/
theorem State.installNow_withPorts {s : State} {ps : Vector Port 4} (same : SameStates ps s.ports) (i : WindowIdx) (c : Contents) :
    (s.withPorts ps).installNow i c = (s.installNow i c).withPorts ps := by
  have port : (((s.withPorts ps).setWindow i (((s.withPorts ps).window i).install c)).port c.port).state =
      ((s.setWindow i ((s.window i).install c)).port c.port).state := same _
  simp only [State.installNow, State.recheck, port]
  rfl

/-- An install goes the same way with the same port states (R23, R24, R25). -/
theorem State.installFor_withPorts {s : State} {ps : Vector Port 4} (same : SameStates ps s.ports) (d : DeferredOp) (x : PendingChange) :
    (s.withPorts ps).installFor d x = (s.installFor d x).withPorts ps := by
  cases x with
  | replacement c => exact congrArg (State.answerDeferredOp · d .ok) (State.installNow_withPorts (s := s.endDeferred) same d.index c)
  | close => rfl

theorem State.installPending_withPorts {s : State} {ps : Vector Port 4} (same : SameStates ps s.ports) :
    (s.withPorts ps).installPending = s.installPending.withPorts ps := by
  have due : (s.withPorts ps).installDue = s.installDue := rfl
  unfold State.installPending
  rw [due]
  rcases s.installDue with _ | ⟨d, x⟩
  · rfl
  · exact State.installFor_withPorts same d x

/-! ## The ends of the entries of the port (R71, R74) -/

theorem SameStates.trans {ps qs rs : Vector Port 4} (h : SameStates ps qs) (g : SameStates qs rs) : SameStates ps rs :=
  fun p => (h p).trans (g p)

/-- An update that keeps the state of its port. -/
theorem SameStates.updPort {s : State} {p : PortId} {f : Port → Port} (h : (f (s.port p)).state = (s.port p).state) :
    SameStates (s.updPort p f).ports s.ports := fun q => by
  have port := State.port_updPort s p q f
  rw [show (s.updPort p f).ports[q] = _ from port]
  split
  next same => exact same ▸ h
  · rfl

theorem State.ended_withPorts {g h : State} (alike : h = g.withPorts h.ports) (states : SameStates h.ports g.ports) :
    h.installPending.dispatchAll = g.installPending.dispatchAll.withPorts h.ports := by
  generalize h.ports = ps at alike states
  rw [alike, State.installPending_withPorts states, State.dispatchAll_withPorts (by rw [(State.installPending_leaves _).1]; exact states)]

/-- An entry that goes leaves the states of the ports (R68, R71). -/
theorem SameStates.entryGone (s : State) (p : PortId) (e : TrackEntry) : SameStates (s.entryGone p e).ports s.ports :=
  SameStates.updPort (f := fun q => { q with lock := if q.lock = some e.index then none else q.lock }) rfl

theorem Port.releaseFrom_state (q : Port) (e : TrackEntry) : (q.releaseFrom e).state = q.state := by
  unfold Port.releaseFrom
  split
  · split <;> rfl
  · rfl

/-- A FAULT answer leaves the ports alone (R69, R70). -/
theorem State.faultAnswered_ports (t s : State) (e : TrackEntry) (r : Reason) : (t.faultAnswered s e r).ports = t.ports := by
  unfold State.faultAnswered
  split <;> rfl

theorem SameStates.symm {ps qs : Vector Port 4} (h : SameStates ps qs) : SameStates qs ps := fun p => (h p).symm

/-- The end of an entry, in the state with the ports as they are and in one with other ports in the same states: they differ in the ports
alone, and these stay in the same states (R71, R74). -/
theorem State.entryReset_withPorts {t : State} {ps : Vector Port 4} (same : SameStates ps t.ports) {p : PortId} {e : TrackEntry}
    (port : e.port = p) : ∃ qs, SameStates qs (t.endEntry e (.fault .portReset)).ports ∧
      (t.withPorts ps).entryReset p e = (t.endEntry e (.fault .portReset)).withPorts qs := by
  have alike : ((t.withPorts ps).entryGone p e).faultAnswered (t.withPorts ps) e .portReset =
      State.withPorts (((t.answerEntry e (.fault .portReset)).updPort p fun q => q.releaseFrom e).entryGone p e)
        (((t.withPorts ps).entryGone p e).faultAnswered (t.withPorts ps) e .portReset).ports := by
    rw [State.answerEntry_fault t t e .portReset rfl rfl]
    simp only [State.faultAnswered]
    cases e.posted <;> rfl
  have states : SameStates (((t.withPorts ps).entryGone p e).faultAnswered (t.withPorts ps) e .portReset).ports
      (((t.answerEntry e (.fault .portReset)).updPort p fun q => q.releaseFrom e).entryGone p e).ports := by
    have gone := SameStates.entryGone ((t.answerEntry e (.fault .portReset)).updPort p fun q => q.releaseFrom e) p e
    have released := SameStates.updPort (s := t.answerEntry e (.fault .portReset)) (p := p) (f := fun q => q.releaseFrom e)
      (Port.releaseFrom_state _ e)
    rw [State.answerEntry_ports] at released
    rw [State.faultAnswered_ports]
    exact (SameStates.entryGone (t.withPorts ps) p e).trans (same.trans (gone.trans released).symm)
  refine ⟨(((t.withPorts ps).entryGone p e).faultAnswered (t.withPorts ps) e .portReset).ports, ?_, ?_⟩
  · rw [State.endEntry_gone t port, State.dispatchAll_ports, (State.installPending_leaves _).1]
    exact states
  · rw [State.endEntry_gone t port]
    exact State.ended_withPorts alike states

/-- The same for the entries that end one after another. -/
theorem State.entriesReset_withPorts {p : PortId} {l : List TrackEntry} (own : ∀ e ∈ l, e.port = p) {t : State} {ps : Vector Port 4}
    (same : SameStates ps t.ports) : ∃ qs, l.foldl (fun t e => t.entryReset p e) (t.withPorts ps) =
      (l.foldl (fun t e => t.endEntry e (.fault .portReset)) t).withPorts qs := by
  induction l generalizing t ps with
  | nil => exact ⟨ps, rfl⟩
  | cons e l ih =>
    obtain ⟨qs, states, eq⟩ := State.entryReset_withPorts same (own e (by simp))
    rw [List.foldl_cons, List.foldl_cons, eq]
    exact ih (fun x mem => own x (by simp [mem])) states

/-! ## The port of the entries (R71, R92) -/

/-- A port that differs in its slots, its free-slot order and its SWAP lock. -/
def Port.Released (q r : Port) : Prop := ∃ slots order lock, r = { q with slots := slots, freeOrder := order, lock := lock }

theorem Port.Released.endEntry (q : Port) (e : TrackEntry) : q.Released ((q.releaseFrom e).unlock e.index) := by
  have released : q.Released (q.releaseFrom e) := by
    unfold Port.releaseFrom
    split
    · split
      · exact ⟨_, _, q.lock, rfl⟩
      · exact ⟨q.slots, q.freeOrder, q.lock, rfl⟩
    · exact ⟨q.slots, q.freeOrder, q.lock, rfl⟩
  obtain ⟨slots, order, lock, eq⟩ := released
  rw [eq]
  unfold Port.unlock
  split
  · exact ⟨_, _, _, rfl⟩
  · exact ⟨_, _, _, rfl⟩

/-- The ends of the entries of port p leave the other ports alone, and of port p all but its slots and its SWAP lock (R71). -/
theorem State.endEntries_port {p : PortId} {l : List TrackEntry} (own : ∀ e ∈ l, e.port = p) (t : State) :
    (t.port p).Released ((l.foldl (fun t e => t.endEntry e (.fault .portReset)) t).port p) ∧
      ∀ q, p ≠ q → (l.foldl (fun t e => t.endEntry e (.fault .portReset)) t).port q = t.port q := by
  induction l generalizing t with
  | nil => exact ⟨⟨_, _, _, rfl⟩, fun _ _ => rfl⟩
  | cons e l ih =>
    have ended : ∀ q, (t.endEntry e (.fault .portReset)).port q =
        if e.port = q then ((t.port q).releaseFrom e).unlock e.index else t.port q := fun q => by
      rw [State.endEntry_eq, ← State.port_entryEnded t e (.fault .portReset) q]
      simp only [State.port, State.dispatchAll_ports]
    obtain ⟨⟨slots, order, lock, eq⟩, others⟩ := ih (fun x mem => own x (by simp [mem])) (t.endEntry e (.fault .portReset))
    have port := own e (by simp)
    constructor
    · obtain ⟨slots', order', lock', eq'⟩ := Port.Released.endEntry (t.port p) e
      rw [List.foldl_cons, eq, ended, if_pos port, eq']
      exact ⟨_, _, _, rfl⟩
    · intro q other
      rw [List.foldl_cons, others q other, ended, if_neg (port ▸ other)]

/-! ## The port that is reset (R92, R103) -/

/-- What PORT RESET makes of its port, but for the turn (R92, R102, R103). -/
def Port.resetting (q : Port) (answerTo : Pair) : Port :=
  { q with
    state := .resetting
    pulse := some { timer := q.config.resetPulse.toNat, answerTo := some answerTo }
    slots := #v[.free, .free, .free, .free]
    freeOrder := [0, 1, 2, 3]
    lock := none
    stallReport := false
    upkeep := { q.upkeep with
      timer :=
        if q.state = .stopped then
          (if q.config.interval = 0 then none
          else some
            { left := Config.intervalTenths q.config.interval / 10
              remainder := Config.intervalTenths q.config.interval % 10 })
        else q.upkeep.timer
      pending := false
      missed := if q.upkeep.pending then q.upkeep.missed + 1 else q.upkeep.missed
      inFlight := none
      failed := if q.upkeep.inFlight = none then q.upkeep.failed else q.upkeep.failed + 1
      lastFailedRow := match q.upkeep.inFlight with
        | none => q.upkeep.lastFailedRow
        | some a => some a.row } }

/-- The upkeep of a port at its reset (R103). -/
theorem Upkeep.portReset_eq (u : Upkeep) : u.portReset =
    { u with
      pending := false
      missed := if u.pending then u.missed + 1 else u.missed
      inFlight := none
      failed := if u.inFlight = none then u.failed else u.failed + 1
      lastFailedRow := match u.inFlight with
        | none => u.lastFailedRow
        | some a => some a.row } := by
  rw [Upkeep.portReset, Upkeep.clearMissed_eq]
  cases u with | mk timer pending flight => cases flight <;> rfl

/-- A port that has begun its pulse and whose entries have ended is cleared (R92). -/
theorem Port.clearForReset_eq {q r : Port} {answerTo : Pair} (released : (q.beginPulse answerTo).Released r) :
    r.clearForReset = q.resetting answerTo := by
  obtain ⟨slots, order, lock, rfl⟩ := released
  simp only [Port.clearForReset, Port.clearSlots, Upkeep.portReset_eq, Port.resetting, Port.beginPulse, Port.startInterval,
    freshInterval_eq]
  split <;> rfl

/-! ## Copy halves on the port (R125, R129) -/

/-- The report of the Copy Engine after a channel has lost its unit (R112). -/
theorem State.reportUnits_ended {s : State} {c : ChannelId} {ch : Channel} (unit : ch.unit = none) :
    (s.setChannel c ch).reportUnits = s.channelEnded c ch := by
  have some : (s.setChannel c ch).someUnit = (s.channel (1 - c)).unit.isSome := by
    fin_cases c <;> simp [State.someUnit, State.channel_setChannel, unit]
  rw [State.reportUnits, some]
  rfl

theorem State.failHalf_eq {s : State} {c : ChannelId} {cur : CurrentCopy} (current : (s.channel c).current = some cur) (h : Half)
    (r : Reason) : s.failHalf c h r = s.channelFaulted c h cur r := by
  simp only [State.failHalf, current, Option.map_some, Option.getD_some, State.channelFaulted, ← State.reportUnits_ended]
  rfl

theorem State.abortNow_eq (s : State) (c : ChannelId) (n : Nat) : s.abortNow c n =
    { s.channelEnded c Channel.initial with nu := s.nu.raise (.copyAborted c n) } := by
  rw [← State.reportUnits_ended rfl]
  rfl

/-- A half on the port is that of a channel with a current descriptor (R115). -/
theorem Channel.halfOn_current {ch : Channel} {p : PortId} {h : Half} (on : ch.halfOn p = some h) : ∃ cur, ch.current = some cur := by
  unfold Channel.halfOn at on
  split at on
  next cur u current unit => exact ⟨cur, current⟩
  · cases on

/-- An accepted PORT RESET ends the half of a channel on its port (R125, R129). -/
theorem State.portResetCopy_eq (s : State) (p : PortId) (c : ChannelId) : s.portResetCopy p c = s.halfReset p c := by
  unfold State.portResetCopy State.halfReset
  rcases on : (s.channel c).halfOn p with _ | h
  · rfl
  · obtain ⟨cur, current⟩ := Channel.halfOn_current on
    have remaining : (s.channel c).remaining = cur.remaining := by simp [Channel.remaining, current]
    simp only [current]
    split
    · simp only [State.abortingEnd, State.abortNow_eq, remaining, Bool.false_eq_true, if_false]
    · exact State.failHalf_eq current _ _

/-- The end of a half leaves the ports alone. -/
theorem State.halfReset_withPorts (s : State) (ps : Vector Port 4) (p : PortId) (c : ChannelId) :
    (s.withPorts ps).halfReset p c = (s.halfReset p c).withPorts ps := by
  have channel : (s.withPorts ps).channel = s.channel := rfl
  simp only [State.halfReset, channel]
  split
  · split <;> rfl
  · rfl

/-! ## An accepted PORT RESET (R92) -/

theorem SameStates.set (ps : Vector Port 4) (p : PortId) {q r : Port} (h : q.state = r.state) :
    SameStates (ps.set p q) (ps.set p r) := fun x => by
  simp only [Fin.getElem_fin, Vector.getElem_set]
  split
  · exact h
  · rfl

/-- A table of ports that holds r for port p and is otherwise that of the state. -/
theorem State.ports_eq_set {s t : State} {p : PortId} {r : Port} (port : t.port p = r) (others : ∀ q, p ≠ q → t.port q = s.port q) :
    t.ports = s.ports.set p r := by
  refine Vector.ext fun i hi => ?_
  rw [Vector.getElem_set]
  split
  next same =>
    obtain rfl : p = ⟨i, hi⟩ := Fin.ext same
    exact port
  next other => exact others ⟨i, hi⟩ fun same => other (congrArg Fin.val same)

/-- An accepted PORT RESET in the order of R92, from any state of the ports in which the port is RESETTING. -/
theorem State.resetPort_eq (s : State) (p : PortId) (answerTo : Pair) {begun : Port} (state : begun.state = .resetting) :
    s.resetPort p answerTo =
      (((((s.tracking.filter fun e => e.port == p).foldl (fun t e => t.entryReset p e) (s.withPorts (s.ports.set p begun))).withPorts
        (s.ports.set p { (s.port p).resetting answerTo with turn := .upstream })).halfReset p 0).halfReset p 1) := by
  have own : ∀ e ∈ s.tracking.filter (fun e => e.port == p), e.port = p := fun e mem => by simpa using (List.mem_filter.1 mem).2
  have began : SameStates (s.ports.set p begun) (s.updPort p fun q => q.beginPulse answerTo).ports :=
    SameStates.set s.ports p (state.trans rfl)
  obtain ⟨qs, ended⟩ := State.entriesReset_withPorts own began
  obtain ⟨released, others⟩ := State.endEntries_port own (s.updPort p fun q => q.beginPulse answerTo)
  have start : (s.updPort p fun q => q.beginPulse answerTo).withPorts (s.ports.set p begun) = s.withPorts (s.ports.set p begun) := rfl
  rw [start] at ended
  have entries : (s.updPort p fun q => q.beginPulse answerTo).endPortEntries p = (s.tracking.filter fun e => e.port == p).foldl
      (fun t e => t.endEntry e (.fault .portReset)) (s.updPort p fun q => q.beginPulse answerTo) := rfl
  rw [ended, State.resetPort, entries]
  generalize (s.tracking.filter fun e => e.port == p).foldl (fun t e => t.endEntry e (.fault .portReset))
    (s.updPort p fun q => q.beginPulse answerTo) = e at released others
  rw [State.port_updPort_self] at released
  have others : ∀ q, p ≠ q → (e.updPort p Port.clearForReset).port q = s.port q := fun q other => by
    rw [State.port_updPort, if_neg other, others q other, State.port_updPort, if_neg other]
  have cleared : e.updPort p Port.clearForReset = e.withPorts (s.ports.set p ((s.port p).resetting answerTo)) := by
    rw [← State.ports_eq_set (by rw [State.port_updPort_self, Port.clearForReset_eq released]) others]
    rfl
  rw [State.portResetCopy_eq, State.portResetCopy_eq, cleared]
  simp only [State.halfReset_withPorts]
  simp only [State.updPort, State.withPorts, Port.turnUpstream]
  simp

/-! ## The ends of the entries with no drain and no queue entry (R69 to R71, R74) -/

/-- With nothing queued and nothing deferred, neither an install nor a dispatch follows the end of an entry (R42, R71). -/
theorem State.entryReset_alone {t : State} (queue : t.requestQueue = []) (idle : t.deferred = none) (p : PortId) (e : TrackEntry) :
    t.entryReset p e = (t.entryGone p e).faultAnswered t e .portReset := by
  have fields : ((t.entryGone p e).faultAnswered t e .portReset).requestQueue = [] ∧
      ((t.entryGone p e).faultAnswered t e .portReset).deferred = none := by
    unfold State.faultAnswered
    split
    · exact ⟨queue, idle⟩
    · exact ⟨queue, idle⟩
  have notDue : ((t.entryGone p e).faultAnswered t e .portReset).installDue = none := by
    simp only [State.installDue, fields.2]
  rw [State.entryReset, State.installPending_none notDue, State.dispatchAll_none (by simp [State.oldestDispatchable, fields.1])]

/-- What the ends of the entries l of a port change: their records, the use counts of their windows, their answers and notices, and the
report of the Tracking Table (R69 to R71). -/
structure EntriesReset (l : List TrackEntry) (t u : State) : Prop where
  rest : { u with
      ports := t.ports, windows := t.windows, tracking := t.tracking, li := t.li, nu := t.nu
      mc := { u.mc with trackingEmpty := true } } = { t with mc := { t.mc with trackingEmpty := true } }
  tracking : u.tracking = t.tracking.filter fun x => l.all fun e => x.index ≠ e.index
  report : u.mc.trackingEmpty = if l = [] then t.mc.trackingEmpty else u.tracking.isEmpty
  windows : ∀ i, u.window i =
    { t.window i with useCount := (t.window i).useCount - l.countP fun e => e.window == i }
  li : u.li = { t.li with
    responses := t.li.responses ++ (l.filter fun e => !e.posted).map fun e => e.faultResponse .portReset }
  nu : u.nu = ((l.filter fun e => e.posted).map fun e => t.faultNotice e .portReset).foldl NoticeUnit.raise t.nu

/-- The end of one entry. -/
theorem EntriesReset.one (t : State) (p : PortId) (e : TrackEntry) :
    EntriesReset [e] t ((t.entryGone p e).faultAnswered t e .portReset) := by
  have gone : ∀ i, (t.entryGone p e).window i =
      { t.window i with useCount := (t.window i).useCount - [e].countP fun e => e.window == i } := fun i => by
    rw [show (t.entryGone p e).window i = (t.setWindow e.window { t.window e.window with useCount := (t.window e.window).useCount - 1 }).window i
      from rfl, State.window_setWindow]
    split
    next same => simp [same]
    next other => simp [other]
  unfold State.faultAnswered
  cases posted : e.posted with
  | true => exact ⟨rfl, by simp [State.entryGone], rfl, gone, by simp [posted]; rfl, by simp [posted]⟩
  | false => exact ⟨rfl, by simp [State.entryGone, State.responded], rfl, gone, by simp [posted]; rfl, by simp [posted]; rfl⟩

/-- The ends of an entry and of those after it. -/
theorem EntriesReset.cons {e : TrackEntry} {l : List TrackEntry} {t u v : State} (first : EntriesReset [e] t u)
    (others : EntriesReset l u v) : EntriesReset (e :: l) t v where
  rest := (congrArg (fun x : State =>
    { x with ports := t.ports, windows := t.windows, tracking := t.tracking, li := t.li, nu := t.nu }) others.rest).trans first.rest
  tracking := by
    rw [others.tracking, first.tracking, List.filter_filter]
    exact List.filter_congr fun x _ => by simp [Bool.and_comm]
  report := by
    have one : u.mc.trackingEmpty = u.tracking.isEmpty := by rw [first.report, if_neg (by simp)]
    rw [others.report, if_neg (by simp : e :: l ≠ [])]
    split
    next nothing =>
      subst nothing
      rw [one, others.tracking]
      simp
    · rfl
  windows i := by
    rw [others.windows, first.windows]
    simp [List.countP_cons]
    omega
  li := by
    rw [others.li, first.li]
    cases posted : e.posted <;> simp [posted]
  nu := by
    have notice : ∀ x, u.faultNotice x .portReset = t.faultNotice x .portReset := fun x => by
      rw [State.faultNotice, State.faultNotice, first.windows]
    rw [others.nu, first.nu]
    cases posted : e.posted <;> simp [posted, notice]

/-- The ends of the entries one after another, with nothing queued and nothing deferred. -/
theorem EntriesReset.foldl (p : PortId) (l : List TrackEntry) {t : State} (queue : t.requestQueue = []) (idle : t.deferred = none) :
    EntriesReset l t (l.foldl (fun t e => t.entryReset p e) t) := by
  induction l generalizing t with
  | nil => exact ⟨rfl, by simp, rfl, fun i => by simp, by simp, by simp⟩
  | cons e l ih =>
    have one := EntriesReset.one t p e
    rw [List.foldl_cons, State.entryReset_alone queue idle]
    refine one.cons (ih ?_ ?_)
    · exact (congrArg State.requestQueue one.rest).trans queue
    · exact (congrArg State.deferred one.rest).trans idle

/-- With distinct indexes, the entries that stay when those of a port leave are those of the other ports (R51). -/
theorem filter_index_other {l : List TrackEntry} (indexes : (l.map TrackEntry.index).Nodup) (p : PortId) :
    l.filter (fun x => (l.filter fun e => e.port == p).all fun e => x.index ≠ e.index) = l.filter fun e => e.port != p := by
  refine List.filter_congr fun x mem => ?_
  rw [Bool.eq_iff_iff]
  simp only [List.all_eq_true, List.mem_filter, beq_iff_eq, bne_iff_ne, decide_eq_true_eq, and_imp]
  constructor
  · exact fun distinct same => distinct x mem same rfl
  · intro other e inTable port same
    have := List.inj_on_of_nodup_map indexes mem inTable same
    exact other (this ▸ port)

/-! ## PORT RESET on the port named (R92) -/

theorem portResetAct_port {s : State} {f : MgmtFrame} {p : PortId} (names : f.word 0 = BitVec.ofNat 32 p.val) : portResetAct f s =
    match (s.port p).state with
    | .active => ((s.resetPort p f.pair).followUp, .deferred)
    | .settling _ => ((s.resetPort p f.pair).followUp, .deferred)
    | .stopped => ((s.resetPort p f.pair).followUp, .deferred)
    | .held => (s, .refused .state)
    | .disabled => (s, .refused .state)
    | .resetting => (s, .refused .busy) := by
  rw [portResetAct, onPort_port _ names]
  cases (s.port p).state <;> rfl

/-- Settles O38: the refusals by the port state, the reset in the order of R92, and what it amounts to with no drain and no queue entry. -/
theorem portReset : Obligations.PortReset := by
  intro f s p accepted names
  have act := portResetAct_port (s := s.answerDeferred f .portReset) names
  refine ⟨fun rests => ?_, fun resetting => ?_, fun begun ended cleared isBegun isEnded isCleared => ⟨fun moves => ?_,
    fun law queue idle => ?_⟩⟩
  · have refused : portResetAct f (s.answerDeferred f .portReset) = (s.answerDeferred f .portReset, .refused .state) := by
      rcases rests with held | disabled
      · simpa [held] using act
      · simpa [disabled] using act
    exact congrArg Host.Outcome.next (State.manage_refused s .portReset 1 f _ _ accepted refused)
  · have refused : portResetAct f (s.answerDeferred f .portReset) = (s.answerDeferred f .portReset, .refused .busy) := by
      simpa [resetting] using act
    exact congrArg Host.Outcome.next (State.manage_refused s .portReset 1 f _ _ accepted refused)
  · have resets : portResetAct f (s.answerDeferred f .portReset) =
        (((s.answerDeferred f .portReset).resetPort p f.pair).followUp, .deferred) := by
      rcases moves with active | stopped | ⟨x, settling⟩
      · simpa [active] using act
      · simpa [stopped] using act
      · simpa [settling] using act
    refine congrArg Host.Outcome.next ((State.manage_deferred s _ .portReset 1 f _ accepted resets).trans (congrArg State.followUp ?_))
    rw [State.resetPort_eq (s.answerDeferred f .portReset) p f.pair
      (begun := { s.port p with
        state := .resetting
        pulse := some { timer := (s.port p).config.resetPulse.toNat, answerTo := some f.pair } }) rfl]
    subst isCleared isEnded isBegun
    rfl
  · have reset : EntriesReset (s.tracking.filter fun e => e.port == p) begun ended := by
      subst isEnded isBegun
      exact EntriesReset.foldl p _ queue idle
    subst isBegun
    refine ⟨?rest, ?tracking, fun some => ?report, fun i => ?windows, ?li, ?nu⟩
    case rest => exact congrArg (fun x : State => { x with ports := s.ports, li := s.li, nu := s.nu }) reset.rest
    case tracking => exact reset.tracking.trans (filter_index_other law.indexes p)
    case report =>
      obtain ⟨e, mem, port⟩ := some
      rw [reset.report, if_neg (List.ne_nil_of_mem (List.mem_filter.2 ⟨mem, by simpa using port⟩))]
    case windows =>
      rw [reset.windows, List.countP_filter]
      simp only [Bool.and_comm]
      rfl
    case li =>
      rw [reset.li, List.filter_filter]
      simp only [Bool.and_comm]
      rfl
    case nu =>
      rw [reset.nu, List.filter_filter]
      simp only [Bool.and_comm]
      rfl

end Sys2Proof.Machine
end

section
/-! PROOFS. Upkeep (chapter 5): issues, expiries, and the end of the access in flight. -/

namespace Sys2Proof.Machine

/-! ## A port that is changed more than once in an event -/

theorem State.updPort_twice {s : State} {p : PortId} {f g : Port → Port} {q : Port} (h : g (f (s.port p)) = q) :
    (s.updPort p f).updPort p g = { s with ports := s.ports.set p q } := by
  rw [State.updPort_updPort]
  exact State.updPort_eq h

theorem State.port_slotFreed (s : State) (p : PortId) (k : SlotId) : (s.slotFreed p k).port p = (s.port p).freeSlot k := by
  simp [State.slotFreed, State.port, Port.freeSlot]

theorem State.port_slotRetried (s : State) (p : PortId) (k : SlotId) :
    (s.slotRetried p k).port p = ((s.port p).freeSlot k).countRetry := by
  simp [State.slotRetried, State.port, Port.freeSlot, Port.countRetry]

theorem State.port_slotTimedOut (s : State) (p : PortId) (k : SlotId) : (s.slotTimedOut p k).port p = (s.port p).linger k := by
  simp [State.slotTimedOut, State.port, Port.linger, Port.countTimeout, Port.setSlot]

/-! ## Issue and expiry (R100, R101, R104) -/

/-- The port that issues the pending upkeep (R104). -/
theorem Port.issueUpkeep_new {q : Port} {k : SlotId} {ks : List SlotId} (order : q.freeOrder = k :: ks)
    (idle : q.upkeep.inFlight = none) : q.issueUpkeep k =
      { q.issued k ks .upkeep (.upkeep q.upkeep.rowCounter) with
        upkeep := { q.upkeep with
          pending := false
          inFlight := some { row := q.upkeep.rowCounter, retries := 0, state := .issued }
          rowCounter :=
            if q.upkeep.rowCounter.toNat + 1 < q.config.rowLimit.toNat then q.upkeep.rowCounter + 1 else 0 } } := by
  have tail : q.freeOrder.tail = ks := by rw [order, List.tail_cons]
  simp only [Port.issueUpkeep, Upkeep.issue, idle, Port.issueIn, Port.sendIn, Port.issued, tail, nextRow]

/-- The port that issues the WAITING upkeep again (R104). -/
theorem Port.issueUpkeep_again {q : Port} {k : SlotId} {ks : List SlotId} {a : UpkeepAccess} (order : q.freeOrder = k :: ks)
    (flight : q.upkeep.inFlight = some a) : q.issueUpkeep k =
      { q.issued k ks .upkeep (.upkeep a.row) with upkeep := { q.upkeep with inFlight := some { a with state := .issued } } } := by
  have tail : q.freeOrder.tail = ks := by rw [order, List.tail_cons]
  simp only [Port.issueUpkeep, Upkeep.issue, flight, Port.issueIn, Port.sendIn, Port.issued, tail]

/-- The port at an expiry of its interval timer (R100, R101). -/
theorem Port.upkeepExpiry_eq (q : Port) (r : Nat) : q.upkeepExpiry.nextInterval r =
    { q with
      upkeep := { q.upkeep with
        timer := some
          { left := (Config.intervalTenths q.config.interval + r) / 10
            remainder := (Config.intervalTenths q.config.interval + r) % 10 }
        suppressed := if q.state = .held then q.upkeep.suppressed + 1 else q.upkeep.suppressed
        missed := if q.state ≠ .held ∧ q.upkeep.pending = true then q.upkeep.missed + 1 else q.upkeep.missed
        pending := if q.state = .held then q.upkeep.pending else true } } := by
  unfold Port.upkeepExpiry
  split
  next held => simp [Port.nextInterval, IntervalTimer.next, held]
  next other => cases pending : q.upkeep.pending <;> simp_all [Port.nextInterval, IntervalTimer.next]

/-! ## The end of an upkeep access (R105 to R107) -/

/-- A failure of the upkeep in flight (R107). -/
theorem State.failUpkeep_eq {s : State} {p : PortId} (f : Port → Port) (row : Row) : (s.updPort p f).failUpkeep p row =
    { s with
      ports := s.ports.set p { f (s.port p) with
        upkeep := { (f (s.port p)).upkeep with
          failed := (f (s.port p)).upkeep.failed + 1, lastFailedRow := some row, inFlight := none } }
      nu := s.nu.raise (.upkeepFailed p row) } := by
  rw [State.failUpkeep, State.updPort_twice rfl]
  rfl

/-- Settles O40: the issue, the expiry, and every end of the access in flight. -/
theorem upkeepAccesses : Obligations.UpkeepAccesses := by
  intro s p u failing
  have followed : ∀ {t v : State}, t = v → Host.Outcome.next t.followUp = (Host.Outcome.next v.followUp : Host.Outcome State Fault Refusal) :=
    fun same => by rw [same]
  have issues := (exec_serve s p).1
  refine ⟨fun k ks chosen order (idle : (s.port p).upkeep.inFlight = _) => ?_,
    fun k ks a chosen order (flight : (s.port p).upkeep.inFlight = _) => ?_, fun r (timer : (s.port p).upkeep.timer = _) => ?_,
    fun (notDue : ∀ r, (s.port p).upkeep.timer ≠ _) => ?_,
    fun k a data held (flight : (s.port p).upkeep.inFlight = _) => ⟨?_, ?_, fun within => ?_, fun beyond => ?_, fun ran => ?_⟩⟩
  · rw [issues chosen]
    simp only [State.serve, chosen, order]
    exact followed (State.updPort_eq (Port.issueUpkeep_new order idle))
  · rw [issues chosen]
    simp only [State.serve, chosen, order]
    exact followed (State.updPort_eq (Port.issueUpkeep_again order flight))
  · simp only [exec, execUpkeepExpiry, timer]
    exact followed (State.updPort_eq (Port.upkeepExpiry_eq _ r))
  · rw [exec, execUpkeepExpiry]
    split
    next r timer => exact absurd timer (notDue r)
    · rfl
  · rw [exec_completion_held held, State.port_slotFreed]
    simp only [State.deliver, State.completeUpkeep, flight]
    exact followed (State.updPort_twice rfl)
  · rw [exec_completion_held held, State.port_slotFreed]
    simp only [State.deliver, State.completeUpkeep, flight]
    exact followed (State.failUpkeep_eq _ _)
  · rw [exec_completion_held held, State.port_slotRetried]
    simp only [State.deliver, State.completeUpkeep, flight, if_pos within, State.updPort_updPort]
    exact followed (State.updPort_eq rfl)
  · rw [exec_completion_held held, State.port_slotRetried]
    simp only [State.deliver, State.completeUpkeep, flight, if_neg (Nat.not_lt.2 beyond), State.updPort_updPort]
    exact followed (State.failUpkeep_eq _ _)
  · have lingers : s.slotTimedOut p k = s.updPort p fun q => q.linger k := rfl
    have flown : ((s.updPort p fun q => q.linger k).port p).upkeep.inFlight = some a := by
      rw [State.port_updPort_self]
      exact flight
    rw [exec_timeout_held held ran, State.port_slotTimedOut, lingers]
    simp only [State.timeoutHolder, State.timeoutUpkeep, flown]
    exact followed (congrArg (State.stallTest · p) (State.failUpkeep_eq _ _))

end Sys2Proof.Machine
end

section
/-! PROOFS. The Copy Engine (chapter 6): what a channel offers, the issue and the end of a half, the pace lines, and its commands. -/

namespace Sys2Proof.Machine

/-! ## What a channel offers (R116) -/

/-- The pacing allows a new unit (R116, R122, R123). -/
theorem State.paceAllows_iff (s : State) (ch : Channel) (d : Descriptor) : s.paceAllows ch d = true ↔
    match d.pacing with
    | .continuous => True
    | .yielding => True
    | .paced line .level => (s.port line).pace = true
    | .paced _ .edge => ch.permit = true := by
  unfold State.paceAllows
  rcases d.pacing with _ | _ | ⟨line, _ | _⟩ <;> simp

/-- A channel without a unit offers the read half of a new one (R116). -/
theorem State.offersTo_new {s : State} {c : ChannelId} {cur : CurrentCopy} (running : (s.channel c).state = .running)
    (current : (s.channel c).current = some cur) (unit : (s.channel c).unit = none) (p : PortId) : s.offersTo c p = true ↔
      s.engineEnable = true ∧ cur.desc.srcPort = p ∧ s.paceAllows (s.channel c) cur.desc = true := by
  simp only [State.offersTo, State.offer, running, current, unit]
  by_cases allowed : (s.engineEnable && s.paceAllows (s.channel c) cur.desc) = true
  · obtain ⟨enabled, paced⟩ := Bool.and_eq_true_iff.1 allowed
    simp [enabled, paced]
  · have refused : ¬ (s.engineEnable = true ∧ s.paceAllows (s.channel c) cur.desc = true) := fun both =>
      allowed (Bool.and_eq_true_iff.2 both)
    simp only [if_neg allowed]
    constructor
    · exact nofun
    · exact fun ⟨enabled, _, paced⟩ => absurd ⟨enabled, paced⟩ refused

/-- A unit offers its half while it is WAITING, and a write half that is READY (R116, R118, R120). -/
theorem State.offersTo_unit {s : State} {c : ChannelId} {cur : CurrentCopy} {u : CopyUnit} (running : (s.channel c).state = .running)
    (current : (s.channel c).current = some cur) (unit : (s.channel c).unit = some u) (p : PortId) : s.offersTo c p = true ↔
      (∃ r, u = ⟨.readHalf, .waiting, r⟩ ∧ cur.desc.srcPort = p) ∨
        (∃ w r, u = ⟨.writeHalf w, .ready, r⟩ ∧ cur.desc.dstPort = p) ∨
        ∃ w r, u = ⟨.writeHalf w, .waiting, r⟩ ∧ cur.desc.dstPort = p := by
  obtain ⟨phase, half, retries⟩ := u
  simp only [State.offersTo, State.offer, running, current, unit]
  cases phase <;> cases half <;> simp

/-- A channel that is not RUNNING, or has no descriptor, offers nothing (R116). -/
theorem State.offersTo_none {s : State} {c : ChannelId} (idle : (s.channel c).state ≠ .running ∨ (s.channel c).current = none)
    (p : PortId) : s.offersTo c p = false := by
  have none : s.offer c = none := by
    simp only [State.offer]
    split
    next running current _ => rcases idle with stopped | empty <;> simp_all
    next running current _ => rcases idle with stopped | empty <;> simp_all
    · rfl
  simp only [State.offersTo, none]

/-- What a channel offers to a port (R116). -/
theorem State.offersTo_iff (s : State) (c : ChannelId) (p : PortId) : s.offersTo c p = true ↔
    (s.channel c).state = .running ∧ ∃ cur, (s.channel c).current = some cur ∧
      (((s.channel c).unit = none ∧ s.engineEnable = true ∧ cur.desc.srcPort = p ∧ s.paceAllows (s.channel c) cur.desc = true) ∨
        (∃ r, (s.channel c).unit = some ⟨.readHalf, .waiting, r⟩ ∧ cur.desc.srcPort = p) ∨
        (∃ w r, (s.channel c).unit = some ⟨.writeHalf w, .ready, r⟩ ∧ cur.desc.dstPort = p) ∨
        ∃ w r, (s.channel c).unit = some ⟨.writeHalf w, .waiting, r⟩ ∧ cur.desc.dstPort = p) := by
  by_cases running : (s.channel c).state = .running
  · rcases current : (s.channel c).current with _ | cur
    · simp [State.offersTo_none (.inr current)]
    · rcases unit : (s.channel c).unit with _ | u
      · simp [State.offersTo_new running current unit, running]
      · simp [State.offersTo_unit running current unit, running]
  · simp [State.offersTo_none (.inl running), running]

/-! ## The issue of a half (R84, R117) -/

/-- The report of the Copy Engine while a channel has a unit in flight (R112). -/
theorem State.reportUnits_flight {s : State} {c : ChannelId} (flight : (s.channel c).unit.isSome = true) :
    s.reportUnits = { s with mc := { s.mc with unitsInFlight := true } } := by
  have some : s.someUnit = true := by
    rw [State.someUnit, Bool.or_eq_true]
    fin_cases c
    · exact .inl flight
    · exact .inr flight
  rw [State.reportUnits, some]

/-- The issue of a half, field by field (R84, R112, R117). -/
theorem State.issueHalf_eq {s : State} {c : ChannelId} {cur : CurrentCopy} {p : PortId} {k : SlotId} {ks : List SlotId} {u : CopyUnit}
    {permit : Bool} (order : (s.port p).freeOrder = k :: ks) (unit : (s.channel c).issuedUnit k = u)
    (kept : (if (s.channel c).unit.isNone && cur.desc.pacing.isEdge then false else (s.channel c).permit) = permit) :
    s.issueHalf c cur p k =
      { s with
        channels := s.channels.set c { s.channel c with unit := some u, permit := permit }
        ports := s.ports.set p
          { (s.port p).issued k ks (.copy c u.phase.half) (cur.command u.phase) with
            turn := if cur.desc.pacing = .continuous then (s.port p).turn else .upstream }
        mc := { s.mc with unitsInFlight := true } } := by
  subst unit kept
  have tail : (s.port p).freeOrder.tail = ks := by rw [order, List.tail_cons]
  have port : ∀ h cmd, ((s.port p).issueIn k h cmd).turnAfterCopy cur.desc.pacing =
      { (s.port p).issued k ks h cmd with turn := if cur.desc.pacing = .continuous then (s.port p).turn else .upstream } := by
    intro h cmd
    simp only [Port.turnAfterCopy, Port.issueIn, Port.sendIn, Port.issued, tail]
    split <;> rfl
  simp only [State.issueHalf]
  rw [State.reportUnits_flight (c := c) (by simp), State.updPort_eq (s := s.setChannel c _) (port _ _)]
  rfl

theorem Pacing.isEdge_iff (x : Pacing) (b : Bool) : (if x.isEdge then false else b) =
    match x with
    | .paced _ .edge => false
    | _ => b := by
  rcases x with _ | _ | ⟨line, _ | _⟩ <;> simp [Pacing.isEdge]

/-! ## The pace lines (R122, R123) -/

/-- A channel at an edge of the pace line of port p (R123). -/
theorem Channel.edge_eq (ch : Channel) (p : PortId) : ch.edge p =
    if ∃ cur, ch.current = some cur ∧ cur.desc.pacing = .paced p .edge then { ch with permit := true } else ch := by
  unfold Channel.edge
  rcases current : ch.current with _ | cur <;> simp

/-- The pace line of port p takes a level (R122, R123). -/
theorem State.setPace_eq (s : State) (p : PortId) (level : Bool) :
    { s.setPace p level with channels := s.channels } = { s with ports := s.ports.set p { s.port p with pace := level } } ∧
      ∀ d, (s.setPace p level).channel d =
        if level = true ∧ (s.port p).pace = false ∧
            (∃ cur, (s.channel d).current = some cur ∧ cur.desc.pacing = .paced p .edge) then
          { s.channel d with permit := true }
        else s.channel d := by
  by_cases edge : level = true ∧ (s.port p).pace = false
  · have taken : s.setPace p level = (s.updPort p fun q => { q with pace := level }).mapChannels fun ch => ch.edge p := by
      simp only [State.setPace, edge.1, edge.2, Bool.not_false, Bool.and_true, if_true]
    rw [taken]
    refine ⟨rfl, fun d => ?_⟩
    rw [State.channel_mapChannels, Channel.edge_eq]
    simp only [edge.1, edge.2, true_and, State.channel_updPort]
  · have kept : s.setPace p level = s.updPort p fun q => { q with pace := level } := by
      have noEdge : ¬ (level && !(s.port p).pace) = true := by simpa using edge
      simp only [State.setPace, if_neg noEdge]
    rw [kept]
    refine ⟨rfl, fun d => ?_⟩
    rw [if_neg fun both => edge ⟨both.1, both.2.1⟩, State.channel_updPort]

/-- COPY_HALF_ISSUE issues the half that the arbiter has chosen (R117). -/
theorem exec_copyHalfIssue {s t : State} {c : ChannelId} {cur : CurrentCopy} {p : PortId} {k : SlotId} {ks : List SlotId}
    (chosen : s.arbiterChoice p = some (.copy c)) (order : (s.port p).freeOrder = k :: ks) (current : (s.channel c).current = some cur)
    (issued : s.issueHalf c cur p k = t) : exec (.copyHalfIssue p) s = .next t.followUp := by
  have served : s.serve p = t := by simp only [State.serve, chosen, order, current, issued]
  rw [(exec_serve s p).2.2.2.1 c chosen, served]

/-- Settles O41: what is offered, the issue of a half by its unit, and the change of a pace line. -/
theorem copyHalfIssueAndPace : Obligations.CopyHalfIssueAndPace := by
  intro s c p
  refine ⟨?_, fun cur k ks chosen order current => ⟨fun unit => ?_, fun x r unit => ?_, fun w x r unit => ?_⟩, fun level => ?_⟩
  · have offered := State.offersTo_iff s c p
    simp only [State.paceAllows_iff] at offered
    exact offered
  · refine exec_copyHalfIssue chosen order current
      (State.issueHalf_eq order (u := ⟨.readHalf, .issued k, 0⟩) (by rw [Channel.issuedUnit, unit]) ?_)
    rw [unit, Option.isNone_none, Bool.true_and]
    exact Pacing.isEdge_iff _ _
  · exact exec_copyHalfIssue chosen order current
      (State.issueHalf_eq order (u := ⟨.readHalf, .issued k, r⟩) (by rw [Channel.issuedUnit, unit]) (by simp [unit]))
  · exact exec_copyHalfIssue chosen order current
      (State.issueHalf_eq order (u := ⟨.writeHalf w, .issued k, r⟩) (by rw [Channel.issuedUnit, unit]) (by simp [unit]))
  · exact ⟨s.setPace p level, rfl, s.setPace_eq p level⟩

/-! ## The end of a half (R112, R118 to R121, R124, R129) -/

section
variable {s : State} {p : PortId} {k : SlotId} {c : ChannelId} {h : Half} {cur : CurrentCopy} {u : CopyUnit}

/-- The state after a completion has freed its slot; a RETRY is counted as well (R60, R98, R120). -/
theorem State.slotFreed_eq : (s.updPort p fun q => q.freeSlot k) = s.slotFreed p k := rfl

theorem State.slotRetried_eq : (s.updPort p fun q => q.freeSlot k).updPort p Port.countRetry = s.slotRetried p k := State.updPort_twice rfl

/-- What the completion of half h in slot k of port p makes of channel c, which is not ABORTING: the slot is freed, a RETRY counted, and
the half ends (R118 to R120). -/
def State.halfCompleted (s : State) (p : PortId) (k : SlotId) (c : ChannelId) (cur : CurrentCopy) (u : CopyUnit) (h : Half)
    (st : CompletionStatus) (data : List Word) : State :=
  match st, h, data with
  | .retry, _, _ => (s.slotRetried p k).retryHalf c u h (s.port p).config.retryLimit.toNat
  | .ok, .read, [w] => (s.slotFreed p k).wordRead c w
  | .ok, .write, _ => (s.slotFreed p k).unitMoved c (s.channel c) cur
  | _, _, _ => (s.slotFreed p k).failHalf c h .segmentError

theorem exec_completion_half (slot : HalfInSlot s p k c h cur u) (working : (s.channel c).state ≠ .aborting) (st : CompletionStatus)
    (data : List Word) :
    exec (.completion p k st data) s = .next (s.halfCompleted p k c cur u h st data).followUp := by
  rw [exec_completion_held slot.held]
  refine congrArg (fun t => Host.Outcome.next (State.followUp t)) ?_
  have current := slot.current
  have unit := slot.unit
  cases state : (s.channel c).state with
  | aborting => exact absurd state working
  | _ =>
    simp only [State.deliver, State.completeCopy, state, current, unit, State.halfCompleted]
    cases st with
    | retry => simp only [if_true, State.slotRetried_eq]
    | ok => cases h <;> rcases data with _ | ⟨_, _ | _⟩ <;> rfl
    | error => cases h <;> rfl

/-- A completion of a half that holds its slot, in an ABORTING channel (R129). -/
theorem exec_completion_aborting (slot : HalfInSlot s p k c h cur u) (aborting : (s.channel c).state = .aborting) (st : CompletionStatus)
    (data : List Word) : exec (.completion p k st data) s = .next (State.followUp
      ((if st = .retry then s.slotRetried p k else s.slotFreed p k).abortNow c
        (if h = .write ∧ st = .ok then cur.remaining - 1 else cur.remaining))) := by
  rw [exec_completion_held slot.held]
  refine congrArg (fun t => Host.Outcome.next (State.followUp t)) ?_
  have remaining : ∀ t : State, t.channel = s.channel → (t.channel c).remaining = cur.remaining := fun t same => by
    simp [same, Channel.remaining, slot.current]
  simp only [State.deliver, State.completeCopy, aborting, State.slotRetried_eq, State.abortingEnd]
  rw [remaining _ (by split <;> rfl), State.slotFreed_eq]
  simp

end

/-- The pace permit at a promotion (R121). -/
theorem permitKept_eq (x y : Pacing) (b : Bool) : (b && permitKept x y) =
    match x, y with
    | .paced a .edge, .paced d .edge => b && decide (a = d)
    | _, _ => false := by
  rcases x with _ | _ | ⟨a, _ | _⟩ <;> rcases y with _ | _ | ⟨d, _ | _⟩ <;> simp [permitKept, beq_eq_decide]

/-- COPY_DONE for a descriptor with notify (R121). -/
theorem State.raiseDone_eq (s : State) (c : ChannelId) (d : Descriptor) : s.raiseDone c d =
    { s with nu := if d.notify then s.nu.raise (.copyDone c d.count) else s.nu } := by
  unfold State.raiseDone
  split <;> rfl

/-- A descriptor goes on with its next unit (R119, R130). -/
theorem State.unitMoved_next {t : State} {c : ChannelId} {ch : Channel} {cur : CurrentCopy} (more : 1 < cur.remaining) :
    t.unitMoved c ch cur = t.channelEnded c
      { ch with
        state := stateByEnable t.engineEnable
        unit := none
        current := some
          { cur with
            remaining := cur.remaining - 1
            src := cur.desc.srcStep.move cur.src
            dst := cur.desc.dstStep.move cur.dst } } := by
  rw [State.unitMoved, if_neg (by omega), State.reportUnits_ended rfl]

/-- A descriptor is done (R121). -/
theorem State.unitMoved_done {t : State} {c : ChannelId} {ch : Channel} {cur : CurrentCopy} (last : cur.remaining = 1)
    (unit : (ch.promote cur.desc t.engineEnable).unit = none) : t.unitMoved c ch cur =
      { t.channelEnded c (ch.promote cur.desc t.engineEnable) with
        nu := if cur.desc.notify then t.nu.raise (.copyDone c cur.desc.count) else t.nu } := by
  rw [State.unitMoved, if_pos (by omega), State.reportUnits_ended unit, State.raiseDone_eq]
  rfl

/-- Settles O42: every end of a half, in a channel that works and in one that aborts. -/
theorem copyHalfEnds : Obligations.CopyHalfEnds := by
  intro s p k c h cur u data slot
  have fails : ∀ (t : State) (r : Reason), t.channel = s.channel → t.failHalf c h r = t.channelFaulted c h cur r := fun t r same =>
    State.failHalf_eq (by rw [same]; exact slot.current) h r
  have timedOut : (s.slotTimedOut p k).channel = s.channel := rfl
  refine ⟨fun working => ?_, fun aborting => ⟨fun st other => ?abortEnd, ?abortRetry, fun ran => ?abortTimeout⟩⟩
  case abortEnd =>
    rw [exec_completion_aborting slot aborting, if_neg other, State.abortNow_eq]
    rfl
  case abortRetry =>
    rw [exec_completion_aborting slot aborting, if_pos rfl, State.abortNow_eq]
    simp only [reduceCtorEq, and_false, if_false]
    rfl
  case abortTimeout =>
    have remaining : ((s.slotTimedOut p k).channel c).remaining = cur.remaining := by
      simp [timedOut, Channel.remaining, slot.current]
    have aborts : ((s.slotTimedOut p k).channel c).state = .aborting := aborting
    rw [exec_timeout_held slot.held ran]
    simp only [State.timeoutHolder, State.timeoutCopy, aborts, State.abortingEnd, State.abortNow_eq, remaining, Bool.false_eq_true,
      if_false]
    rfl
  have complete := exec_completion_half slot working
  refine ⟨fun w read one => ?_, fun read many => ?_, fun write more => ?_, fun write last none => ?_, fun d write last pending => ?_, ?_,
    fun within => ?_, fun beyond => ?_, fun ran => ?_⟩
  · subst read one
    exact complete .ok [w]
  · subst read
    rw [complete, ← fails (s.slotFreed p k) _ rfl]
    rcases data with _ | ⟨_, _ | _⟩
    · rfl
    · exact absurd rfl many
    · rfl
  · subst write
    rw [complete]
    exact congrArg (fun t => Host.Outcome.next (State.followUp t)) (State.unitMoved_next more)
  · subst write
    have initial : (s.channel c).promote cur.desc (s.slotFreed p k).engineEnable = Channel.initial := by rw [Channel.promote, none]
    rw [complete]
    refine congrArg (fun t => Host.Outcome.next (State.followUp t)) ((State.unitMoved_done last ?_).trans ?_)
    · rw [initial, Channel.initial]
    · rw [initial]
      rfl
  · subst write
    have promoted : (s.channel c).promote cur.desc (s.slotFreed p k).engineEnable =
        { state := stateByEnable s.engineEnable, current := some d.start, pending := none, unit := none
          permit := (s.channel c).permit && permitKept cur.desc.pacing d.pacing, lastFault := none } := by
      rw [Channel.promote, pending]
      rfl
    rw [complete]
    refine congrArg (fun t => Host.Outcome.next (State.followUp t)) ((State.unitMoved_done last ?_).trans ?_)
    · rw [promoted]
    · rw [promoted, permitKept_eq]
      rfl
  · rw [complete, ← fails (s.slotFreed p k) _ rfl]
    cases h <;> rfl
  · rw [complete]
    exact congrArg (fun t => Host.Outcome.next (State.followUp t)) (if_pos within)
  · rw [complete, ← fails (s.slotRetried p k) _ rfl]
    exact congrArg (fun t => Host.Outcome.next (State.followUp t)) (if_neg (Nat.not_lt.2 beyond))
  · rw [exec_timeout_held slot.held ran, ← fails (s.slotTimedOut p k) _ rfl]
    have works : ((s.slotTimedOut p k).channel c).state ≠ .aborting := working
    simp only [State.timeoutHolder, State.timeoutCopy]

end Sys2Proof.Machine
end

section
/-! PROOFS. The commands of the Copy Engine (chapter 6): CHANNEL LOAD, ABORT and RESUME, ENGINE START and ENGINE QUENCH. -/

namespace Sys2Proof.Machine

/-! ## Descriptors (R113, 12.4) -/

/-- The pacing in descriptor word 2 (R113). -/
theorem pacingField_iff (z : Word) (x : Pacing) : pacingField z = some x ↔
    (field z 16 2).toNat = x.code ∧
      ∀ line sense, x = .paced line sense → line.val = (field z 18 2).toNat ∧ bit z 20 = decide (sense = .edge) := by
  have port : ∀ line : PortId, line = portField z 18 ↔ line.val = (field z 18 2).toNat := fun line => Fin.ext_iff
  have edge : ∀ sense : PaceSense, sense = (if bit z 20 then .edge else .level) ↔ bit z 20 = decide (sense = .edge) := by
    intro sense
    cases bit z 20 <;> cases sense <;> simp
  unfold pacingField
  split
  next zero => cases x <;> simp [zero, Pacing.code]
  next one => cases x <;> simp [one, Pacing.code]
  next two =>
    cases x with
    | continuous => simp [two, Pacing.code]
    | yielding => simp [two, Pacing.code]
    | paced line sense => simp [two, Pacing.code, eq_comm (b := line), eq_comm (b := sense), port, edge]
  next other zero one two =>
    have := (field z 16 2).isLt
    have code : (field z 16 2).toNat ≠ x.code := by cases x <;> simp only [Pacing.code] <;> omega
    simp [code]

/-- The run of one side (R113). -/
theorem runInside_iff (a : PhysAddr) (x : Step) (n : Nat) : runInside a x n = true ↔ a.toNat % 4 = 0 ∧
    match x with
    | .up => a.toNat + 4 * (n - 1) ≤ 0x0FFFFFFC
    | .down => 4 * (n - 1) ≤ a.toNat
    | .hold => True := by
  cases x <;> simp [runInside]

/-- A descriptor whose count came from its field is valid when both runs are (R113). -/
theorem Descriptor.valid_iff {d : Descriptor} {x : BitVec 16} (count : d.count = x.toNat + 1) : d.valid = true ↔
    runInside d.srcAddr d.srcStep d.count = true ∧ runInside d.dstAddr d.dstStep d.count = true := by
  have := x.isLt
  have one : 1 ≤ d.count := by omega
  have most : d.count ≤ 65536 := by omega
  simp [Descriptor.valid, one, most]

/-- A descriptor names its ports, and the port of its pace line (R96, R113). -/
theorem Descriptor.names_iff (d : Descriptor) (p : PortId) : d.names p = true ↔
    d.srcPort = p ∨ d.dstPort = p ∨ ∃ sense, d.pacing = .paced p sense := by
  rcases pacing : d.pacing with _ | _ | ⟨line, sense⟩ <;> simp [Descriptor.names, pacing, or_assoc]

theorem Channel.names_iff (ch : Channel) (p : PortId) : ch.names p = true ↔
    (∃ cur, ch.current = some cur ∧ cur.desc.names p = true) ∨ ∃ d, ch.pending = some d ∧ d.names p = true := by
  rw [Channel.names, Bool.or_eq_true, Option.any_eq_true, Option.any_eq_true]

/-- A port number is that of its field. -/
theorem eq_portField_iff (p : PortId) (w : Word) (lo : Nat) : p = portField w lo ↔ p.val = (field w lo 2).toNat := Fin.ext_iff

/-! ## CHANNEL LOAD (R114) -/

section
variable {s : State} {f : MgmtFrame} {c : ChannelId} (names : (field (f.word 0) 0 8).toNat = c.val)
include names

theorem channelLoadAct_state (aborting : (s.channel c).state = .aborting) : channelLoadAct f s = (s, .refused .state) := by
  simp [channelLoadAct, indexBelow_some c names, aborting, unchanged]

theorem channelLoadAct_busy (working : (s.channel c).state ≠ .aborting) (pending : (s.channel c).pending ≠ none) :
    channelLoadAct f s = (s, .refused .busy) := by
  simp [channelLoadAct, indexBelow_some c names, working, Option.isSome_iff_ne_none.2 pending, unchanged]

/-- CHANNEL LOAD of a channel that takes a descriptor (R114). -/
theorem channelLoadAct_takes (working : (s.channel c).state ≠ .aborting) (pending : (s.channel c).pending = none) :
    channelLoadAct f s =
      match loadOperands f with
      | none => (s, .refused .range)
      | some d => if s.portOffFor d then (s, .refused .portOff) else (s.setChannel c ((s.channel c).load d s.engineEnable), .done) := by
  simp only [channelLoadAct, indexBelow_some c names, working, pending, if_false, Option.isSome_none, Bool.false_eq_true]
  cases loadOperands f <;> rfl

end

/-- The descriptor that CHANNEL LOAD supplies (R113, R190). -/
theorem loadOperands_eq (f : MgmtFrame) : loadOperands f =
    if (f.word 0).toNat < 256 then descriptorWords (f.word 1) (f.word 2) (f.word 3) else none :=
  if_congr indexOnly_iff rfl rfl

/-- A channel command that its block refuses (R163). -/
theorem exec_channelLoad_refused {s : State} {f : MgmtFrame} {r : Reason} (accepted : CommandAccepted s f 4)
    (act : channelLoadAct f (s.answerDeferred f .channelLoad) = (s.answerDeferred f .channelLoad, .refused r)) :
    exec (.channelLoad f) s = .next (s.answeredRefused f .channelLoad r) :=
  congrArg Host.Outcome.next (State.manage_refused s .channelLoad 4 f _ r accepted act)

/-- A command of the Copy Engine that gives the arbiters something to do, with one channel changed (R160). -/
theorem manage_channel_done {s : State} {f : MgmtFrame} {m : Command} {n : Nat} {act : Act} {c : ChannelId} {ch : Channel}
    (accepted : CommandAccepted s f n) (acts : act f (s.answerDeferred f m) = ((s.answerDeferred f m).setChannel c ch, .done)) :
    s.manage m n f act = State.followUp { s.answeredOk f m [] with channels := s.channels.set c ch } := by
  refine (State.manage_done s _ m n f act accepted acts rfl).trans (congrArg State.followUp ?_)
  rfl

/-- Settles O43: the descriptor field by field, the ports that it names, and the checks in their order. -/
theorem channelLoad : Obligations.ChannelLoad := by
  refine ⟨fun x y z d => ?_, Descriptor.names_iff, Channel.names_iff, fun f s accepted => ⟨fun none => ?_, fun c names =>
    ⟨fun aborting => ?_, fun working pending => ?_, fun working pending => ⟨fun bad => ?_, fun d words small => ⟨fun off => ?_,
      fun on => ?_⟩⟩⟩⟩⟩
  · rw [descriptorWords_iff]
    constructor
    · rintro ⟨srcStep, dstStep, pacing, srcPort, srcAddr, dstPort, dstAddr, count, notify, zero, valid⟩
      obtain ⟨code, paced⟩ := (pacingField_iff z _).1 pacing
      obtain ⟨src, dst⟩ := (Descriptor.valid_iff count).1 valid
      obtain ⟨srcAligned, srcRun⟩ := (runInside_iff _ _ _).1 src
      obtain ⟨dstAligned, dstRun⟩ := (runInside_iff _ _ _).1 dst
      exact ⟨by simpa [zeroUnder] using zero, srcAddr, (eq_portField_iff _ _ _).1 srcPort, (stepCode_iff _ _).1 srcStep, dstAddr,
        (eq_portField_iff _ _ _).1 dstPort, (stepCode_iff _ _).1 dstStep, count, code, paced, notify, srcAligned, dstAligned, srcRun, dstRun⟩
    · rintro ⟨zero, srcAddr, srcPort, srcStep, dstAddr, dstPort, dstStep, count, code, paced, notify, srcAligned, dstAligned, srcRun,
        dstRun⟩
      exact ⟨(stepCode_iff _ _).2 srcStep, (stepCode_iff _ _).2 dstStep, (pacingField_iff z _).2 ⟨code, paced⟩,
        (eq_portField_iff _ _ _).2 srcPort, srcAddr, (eq_portField_iff _ _ _).2 dstPort, dstAddr, count, notify,
        by simpa [zeroUnder] using zero,
        (Descriptor.valid_iff count).2 ⟨(runInside_iff _ _ _).2 ⟨srcAligned, srcRun⟩, (runInside_iff _ _ _).2 ⟨dstAligned, dstRun⟩⟩⟩
  · exact exec_channelLoad_refused accepted (by rw [channelLoadAct, indexBelow_none none]; rfl)
  · exact exec_channelLoad_refused accepted (channelLoadAct_state names (by simpa using aborting))
  · exact exec_channelLoad_refused accepted (channelLoadAct_busy names (by simpa using working) (by simpa using pending))
  · have none : loadOperands f = none := by
      rw [loadOperands_eq]
      rcases bad with bad | wide
      · rw [bad, ite_self]
      · rw [if_neg (by omega)]
    refine exec_channelLoad_refused accepted ?_
    rw [channelLoadAct_takes names (by simpa using working) (by simpa using pending), none]
  · have some : loadOperands f = some d := by rw [loadOperands_eq, if_pos small, words]
    refine exec_channelLoad_refused accepted ?_
    rw [channelLoadAct_takes names (by simpa using working) (by simpa using pending), some]
    exact if_pos ((State.portOffFor_iff _ _).2 (by simpa using off))
  · have some : loadOperands f = some d := by rw [loadOperands_eq, if_pos small, words]
    have powered : ¬ (s.answerDeferred f .channelLoad).portOffFor d = true := by
      rw [State.portOffFor_iff]
      rintro ⟨p, named, off⟩
      exact on p named (by simpa using off)
    have act : channelLoadAct f (s.answerDeferred f .channelLoad) =
        ((s.answerDeferred f .channelLoad).setChannel c ((s.channel c).load d s.engineEnable), .done) := by
      rw [channelLoadAct_takes names (by simpa using working) (by simpa using pending), some]
      exact if_neg powered
    exact congrArg Host.Outcome.next (manage_channel_done accepted act)

/-! ## CHANNEL ABORT and CHANNEL RESUME (R126, R128) -/

theorem Channel.halfIssued_iff (ch : Channel) : ch.halfIssued = true ↔ ∃ ph k r, ch.unit = some ⟨ph, .issued k, r⟩ := by
  rcases unit : ch.unit with _ | ⟨ph, half, r⟩
  · simp [Channel.halfIssued, unit]
  · cases half <;> simp [Channel.halfIssued, unit]

section
variable {s : State} {f : MgmtFrame} {c : ChannelId} (names : f.word 0 = BitVec.ofNat 32 c.val)
include names

theorem channelAbortAct_channel : channelAbortAct f s =
    match (s.channel c).state with
    | .idle => (s, .refused .state)
    | .aborting => (s, .refused .busy)
    | _ =>
      if (s.channel c).halfIssued then (s.setChannel c { s.channel c with state := .aborting }, .ok [])
      else (s.abortNow c (s.channel c).remaining, .done) := by
  rw [channelAbortAct, onChannel_channel _ names]
  cases (s.channel c).state <;> rfl

theorem channelAbortAct_busy (works : (s.channel c).state ≠ .idle) (working : (s.channel c).state ≠ .aborting) : channelAbortAct f s =
    if (s.channel c).halfIssued then (s.setChannel c { s.channel c with state := .aborting }, .ok [])
    else (s.abortNow c (s.channel c).remaining, .done) := by
  rw [channelAbortAct_channel names]
  cases state : (s.channel c).state with
  | idle => exact absurd state works
  | aborting => exact absurd state working
  | _ => rfl

theorem channelResumeAct_channel : channelResumeAct f s =
    if (s.channel c).state = .faulted then
      (s.setChannel c { s.channel c with state := stateByEnable s.engineEnable, lastFault := none }, .done)
    else (s, .refused .state) := onChannel_channel _ names

end

/-! ## ENGINE START and ENGINE QUENCH (R130, R131) -/

theorem engineStartAct_eq (f : MgmtFrame) (s : State) : engineStartAct f s =
    if s.mc.mode ≠ .run then (s, .refused .mode) else if s.engineEnable then (s, .ok []) else (s.startEngine, .done) := rfl

/-- What a command of the engine leaves behind it once it is answered: its own answer, the enable, and the channels. -/
def State.withEngine (s : State) (enable : Bool) (channels : Vector Channel 2) : State :=
  { s with engineEnable := enable, channels := channels }

theorem engine_answered (s : State) (f : MgmtFrame) (c : Command) (enable : Bool) (channels : Vector Channel 2) :
    { ((s.answerDeferred f c).withEngine enable channels).responded (okResponse f.requester f.tag .management []) with
      mgmtQueue := s.mgmtQueue ++ [{ requester := f.requester, tag := f.tag, command := c, phase := .answered }] } =
    (s.answeredOk f c []).withEngine enable channels := rfl

/-- Settles O44: the four commands by the state of the channel and of the part. -/
theorem channelAndEngineCommands : Obligations.ChannelAndEngineCommands := by
  intro f s
  refine ⟨fun c accepted names => ⟨fun idle => ?_, fun aborting => ?_, fun works working => ⟨fun ph k r unit => ?_,
    fun cur current unissued => ?_⟩, fun faulted => ?_, fun other => ?_⟩,
    fun accepted => ⟨fun other => ?_, fun run enabled => ?_, fun run disabled => ?_, ?_⟩⟩
  · have act := channelAbortAct_channel (s := s.answerDeferred f .channelAbort) names
    exact congrArg Host.Outcome.next (State.manage_refused s .channelAbort 1 f _ .state accepted (by simpa [idle] using act))
  · have act := channelAbortAct_channel (s := s.answerDeferred f .channelAbort) names
    exact congrArg Host.Outcome.next (State.manage_refused s .channelAbort 1 f _ .busy accepted (by simpa [aborting] using act))
  · have act := channelAbortAct_busy (s := s.answerDeferred f .channelAbort) names (by simpa using works) (by simpa using working)
    have issued : ((s.answerDeferred f .channelAbort).channel c).halfIssued = true := (Channel.halfIssued_iff _).2 ⟨ph, k, r, unit⟩
    rw [if_pos issued] at act
    exact congrArg Host.Outcome.next (State.manage_ok s _ .channelAbort 1 f _ [] accepted act rfl)
  · have act := channelAbortAct_busy (s := s.answerDeferred f .channelAbort) names (by simpa using works) (by simpa using working)
    have waits : ¬ ((s.answerDeferred f .channelAbort).channel c).halfIssued = true := by
      rw [Channel.halfIssued_iff]
      exact fun ⟨ph, k, r, unit⟩ => unissued ph k r unit
    have remaining : ((s.answerDeferred f .channelAbort).channel c).remaining = cur.remaining := by simp [Channel.remaining, current]
    rw [if_neg waits, remaining, State.abortNow_eq] at act
    refine congrArg Host.Outcome.next ((State.manage_done s _ .channelAbort 1 f _ accepted act rfl).trans (congrArg State.followUp ?_))
    rfl
  · have act := channelResumeAct_channel (s := s.answerDeferred f .channelResume) names
    rw [if_pos (by simpa using faulted)] at act
    exact congrArg Host.Outcome.next (manage_channel_done accepted act)
  · have act := channelResumeAct_channel (s := s.answerDeferred f .channelResume) names
    rw [if_neg (by simpa using other)] at act
    exact congrArg Host.Outcome.next (State.manage_refused s .channelResume 1 f _ _ accepted act)
  · have act := engineStartAct_eq f (s.answerDeferred f .engineStart)
    rw [if_pos (by simpa using other)] at act
    exact congrArg Host.Outcome.next (State.manage_refused s .engineStart 0 f _ _ accepted act)
  · have act := engineStartAct_eq f (s.answerDeferred f .engineStart)
    rw [if_neg (by simpa using run), if_pos (by simpa using enabled)] at act
    exact congrArg Host.Outcome.next (State.manage_read s .engineStart 0 f _ _ accepted act)
  · have act := engineStartAct_eq f (s.answerDeferred f .engineStart)
    rw [if_neg (by simpa using run), if_neg (by simpa using disabled)] at act
    refine ⟨_, congrArg Host.Outcome.next
      ((State.manage_done s _ .engineStart 0 f _ accepted act rfl).trans (congrArg State.followUp (engine_answered s f .engineStart _ _))),
      rfl, fun c => State.channel_mapChannels { s with engineEnable := true } Channel.start c⟩
  · refine ⟨_, congrArg Host.Outcome.next
      ((State.manage_ok s _ .engineQuench 0 f engineQuenchAct [] accepted rfl rfl).trans (engine_answered s f .engineQuench _ _)),
      rfl, fun c => State.channel_mapChannels { s with engineEnable := false } Channel.quench c⟩

end Sys2Proof.Machine
end

section
/-! PROOFS. The settings and the counters (chapters 7 to 9): NOTICE MASK, MANAGERS SET, SUPERVISION SET, COUNTERS READ. -/

namespace Sys2Proof.Machine

/-! ## The checks on an operand word -/

/-- The mask of NOTICE MASK leaves bits 1 to 14 (R156). -/
theorem noticeMaskAct_eq (f : MgmtFrame) (s : State) : noticeMaskAct f s =
    if f.word 0 &&& 0xFFFF8001 = 0 then ({ s with nu := { s.nu with mask := field (f.word 0) 0 15 } }, .ok [])
    else (s, .refused .range) := by
  simp only [noticeMaskAct, zeroUnder, beq_iff_eq]
  rfl

/-- The set of MANAGERS SET names the requester of the command (R164). -/
theorem managersSetAct_eq (f : MgmtFrame) (s : State) : managersSetAct f s =
    if (f.word 0).toNat < 256 ∧ bit (f.word 0) f.requester.val = true then ({ s with managers := field (f.word 0) 0 8 }, .ok [])
    else (s, .refused .range) := by
  simp only [managersSetAct, Bool.and_eq_true, indexOnly_iff]
  rfl

/-- SUPERVISION SET stores the period and wake-on-request, and the timer restarts with that period (R146). -/
theorem supervisionSetAct_eq (f : MgmtFrame) (s : State) : supervisionSetAct f s =
    if f.word 0 &&& 0xFFFFFE00 = 0 then
      ({ s with mc := ModeController.restart { s.mc with period := field (f.word 0) 0 8, wakeOnRequest := bit (f.word 0) 8 } }, .ok [])
    else (s, .refused .range) := by
  by_cases zero : f.word 0 &&& 0xFFFFFE00 = 0
  · have word : supervisionWord (f.word 0) = some (field (f.word 0) 0 8, bit (f.word 0) 8) := if_pos (beq_iff_eq.2 zero)
    rw [supervisionSetAct, word, if_pos zero]
  · have word : supervisionWord (f.word 0) = none := if_neg (fun same => zero (beq_iff_eq.1 same))
    rw [supervisionSetAct, word, if_neg zero]
    rfl

/-- A field that starts at bit 0 is the low bits of the word. -/
theorem field_low (w : Word) (n : Nat) : field w 0 n = w.setWidth n := by
  refine BitVec.eq_of_getLsbD_eq fun i hi => ?_
  simp [field, hi]

/-! ## COUNTERS READ (R165, R166) -/

theorem counterSelector_link {w : Word} (h : (field w 0 8).toNat = 0x80) : counterSelector w = some .link :=
  if_pos (BitVec.eq_of_toNat_eq h)

theorem counterSelector_port {w : Word} (p : PortId) (h : (field w 0 8).toNat = p.val) : counterSelector w = some (.port p) := by
  have port : field w 0 8 ≠ 0x80 := by
    intro link
    have := p.isLt
    have index : 0x80 = p.val := by rw [← h, link]; rfl
    omega
  rw [counterSelector, if_neg port, indexBelow_some p h]
  rfl

theorem counterSelector_none {w : Word} (past : 4 ≤ (field w 0 8).toNat) (port : (field w 0 8).toNat ≠ 0x80) : counterSelector w = none := by
  rw [counterSelector, if_neg (fun link => port (congrArg BitVec.toNat link)), indexBelow_none past]
  rfl

/-- A selector in its range names a block. -/
theorem counterSelector_some {w : Word} (h : (field w 0 8).toNat < 4 ∨ (field w 0 8).toNat = 0x80) : ∃ b, counterSelector w = some b := by
  rcases h with port | link
  · exact ⟨_, counterSelector_port ⟨_, port⟩ rfl⟩
  · exact ⟨_, counterSelector_link link⟩

/-- COUNTERS READ of a block: RANGE for a bit above bit 8, and the block cleared when bit 8 is set (R165, R166). -/
theorem countersReadAct_block {f : MgmtFrame} {b : CounterBlock} (s : State) (names : counterSelector (f.word 0) = some b) :
    countersReadAct f s =
      if (f.word 0).toNat < 0x200 then
        if bit (f.word 0) 8 then (s.clearBlock b, .ok (s.counterBlock b)) else (s, .ok (s.counterBlock b))
      else (s, .refused .range) := by
  have range : zeroUnder (f.word 0) 0xFFFFFE00 = true ↔ (f.word 0).toNat < 0x200 := zeroUnder_iff 9 _ (by decide)
  rw [countersReadAct, names]
  by_cases small : (f.word 0).toNat < 0x200
  · rw [if_pos small]
    simp only [range.2 small, Bool.not_true]
    rfl
  · have bits : zeroUnder (f.word 0) 0xFFFFFE00 = false := by rw [← Bool.not_eq_true, range]; exact small
    rw [if_neg small]
    simp only [bits]
    rfl

section
variable {s : State} {f : MgmtFrame} (accepted : CommandAccepted s f 1)
include accepted

/-- The frame of the command is well formed: it counts no error of the link (R165). -/
theorem link_counters (c : Command) :
    (s.answerDeferred f c).counterBlock .link = [s.li.checkErrors, s.li.overruns, s.li.malformed] := by
  have malformed : (s.answerDeferred f c).li.malformed = s.li.malformed := by simp [State.receivedMgmt, accepted.wellFormed]
  exact congrArg (fun m => [s.li.checkErrors, s.li.overruns, m]) malformed

/-- COUNTERS READ that only reads. -/
theorem exec_countersRead_read {b : CounterBlock} (names : counterSelector (f.word 0) = some b) (small : (f.word 0).toNat < 0x200)
    (keeps : bit (f.word 0) 8 = false) :
    exec (.countersRead f) s = .next (s.answeredOk f .countersRead ((s.answerDeferred f .countersRead).counterBlock b)) := by
  refine congrArg Host.Outcome.next (State.manage_read s .countersRead 1 f _ _ accepted ?_)
  rw [countersReadAct_block _ names, if_pos small, if_neg (by simp [keeps])]

/-- COUNTERS READ that clears what it read. -/
theorem exec_countersRead_clear {b : CounterBlock} (names : counterSelector (f.word 0) = some b) (small : (f.word 0).toNat < 0x200)
    (clears : bit (f.word 0) 8 = true) :
    exec (.countersRead f) s = .next
      { ((s.answerDeferred f .countersRead).clearBlock b).responded
          (okResponse f.requester f.tag .management ((s.answerDeferred f .countersRead).counterBlock b)) with
        mgmtQueue := s.mgmtQueue ++ [{ requester := f.requester, tag := f.tag, command := .countersRead, phase := .answered }] } := by
  refine congrArg Host.Outcome.next (State.manage_ok s _ .countersRead 1 f countersReadAct _ accepted ?_ ?_)
  · rw [countersReadAct_block _ names, if_pos small, if_pos clears]
  · cases b <;> rfl

theorem exec_countersRead_refused {r : Reason} (refused : countersReadAct f (s.answerDeferred f .countersRead) =
    (s.answerDeferred f .countersRead, .refused r)) : exec (.countersRead f) s = .next (s.answeredRefused f .countersRead r) :=
  congrArg Host.Outcome.next (State.manage_refused s .countersRead 1 f _ r accepted refused)

end

/-- A selector word that names a port. -/
theorem port_selector : ∀ p : PortId, (field (BitVec.ofNat 32 p.val) 0 8).toNat = p.val ∧ (BitVec.ofNat 32 p.val).toNat < 0x200 ∧
    bit (BitVec.ofNat 32 p.val) 8 = false := by decide

/-- A selector word that names a port, with bit 8 set. -/
theorem port_selector_clear : ∀ p : PortId, (field (BitVec.ofNat 32 (256 + p.val)) 0 8).toNat = p.val ∧
    (BitVec.ofNat 32 (256 + p.val)).toNat < 0x200 ∧ bit (BitVec.ofNat 32 (256 + p.val)) 8 = true := by decide

/-- Settles O46: each setting by its range check, and the counters by their selector. -/
theorem settingsAndCounters : Obligations.SettingsAndCounters := by
  intro f s accepted
  refine ⟨fun zero => ?_, fun other => ?_, fun small named => ?_, fun bad => ?_, fun zero => ?_, fun other => ?_,
    fun p => ⟨fun names => ?_, fun names => ?_⟩, fun past port => ?_, fun names past => ?_, fun names => ?_, fun names => ?_⟩
  · have act := noticeMaskAct_eq f (s.answerDeferred f .noticeMask)
    rw [if_pos zero, field_low] at act
    exact congrArg Host.Outcome.next (State.manage_ok s _ .noticeMask 1 f _ [] accepted act rfl)
  · have act := noticeMaskAct_eq f (s.answerDeferred f .noticeMask)
    rw [if_neg other] at act
    exact congrArg Host.Outcome.next (State.manage_refused s .noticeMask 1 f _ _ accepted act)
  · have act := managersSetAct_eq f (s.answerDeferred f .managersSet)
    rw [if_pos ⟨small, named⟩, field_low] at act
    exact congrArg Host.Outcome.next (State.manage_ok s _ .managersSet 1 f _ [] accepted act rfl)
  · have act := managersSetAct_eq f (s.answerDeferred f .managersSet)
    rw [if_neg (by
      rintro ⟨small, named⟩
      rcases bad with past | absent
      · omega
      · exact Bool.false_ne_true (absent.symm.trans named))] at act
    exact congrArg Host.Outcome.next (State.manage_refused s .managersSet 1 f _ _ accepted act)
  · have act := supervisionSetAct_eq f (s.answerDeferred f .supervisionSet)
    rw [if_pos zero, field_low] at act
    exact congrArg Host.Outcome.next (State.manage_ok s _ .supervisionSet 1 f _ [] accepted act rfl)
  · have act := supervisionSetAct_eq f (s.answerDeferred f .supervisionSet)
    rw [if_neg other] at act
    exact congrArg Host.Outcome.next (State.manage_refused s .supervisionSet 1 f _ _ accepted act)
  · obtain ⟨index, small, keeps⟩ := port_selector p
    exact exec_countersRead_read accepted (counterSelector_port p (by rw [names, index])) (by rw [names]; exact small)
      (by rw [names]; exact keeps)
  · obtain ⟨index, small, clears⟩ := port_selector_clear p
    exact exec_countersRead_clear accepted (counterSelector_port p (by rw [names, index])) (by rw [names]; exact small)
      (by rw [names]; exact clears)
  · refine exec_countersRead_refused accepted ?_
    rw [countersReadAct, counterSelector_none past port]
    rfl
  · obtain ⟨b, block⟩ := counterSelector_some names
    refine exec_countersRead_refused accepted ?_
    rw [countersReadAct_block _ block, if_neg (by omega)]
  · rw [← link_counters accepted .countersRead]
    exact exec_countersRead_read accepted (counterSelector_link (by rw [names]; decide)) (by rw [names]; decide) (by rw [names]; decide)
  · rw [← link_counters accepted .countersRead]
    exact exec_countersRead_clear accepted (counterSelector_link (by rw [names]; decide)) (by rw [names]; decide) (by rw [names]; decide)

end Sys2Proof.Machine
end

section
/-! PROOFS. The device modes (chapter 7): QUIESCE, RESUME, STOP, QUIET_REACHED, and the expiry of the supervision timer. -/

namespace Sys2Proof.Machine

/-! ## The changes of the mode (R130, R136 to R140, R143) -/

/-- The mode becomes `m`, and a notice is raised (R143). -/
def State.withMode (s : State) (m : Mode) (n : Notice) : State := { s with mc := { s.mc with mode := m }, nu := s.nu.raise n }

theorem State.changeMode_eq {s : State} {old : Mode} (mode : s.mc.mode = old) (m : Mode) (cause : ModeCause) :
    s.changeMode m cause = s.withMode m (.modeChanged m old cause) := State.changeMode_from mode

/-- Each channel of a part whose channels have been told (R130, R131). -/
theorem State.channel_told (s t : State) (f : Channel → Channel) (enable : Bool) (c : ChannelId) :
    (t.withEngine enable (s.mapChannels f).channels).channel c = f (s.channel c) := State.channel_mapChannels s f c

theorem State.enterQuiescing_eq {s : State} (run : s.mc.mode = .run) (cause : ModeCause) : s.enterQuiescing cause =
    (s.withMode .quiescing (.modeChanged .quiescing .run cause)).withEngine false (s.mapChannels Channel.quench).channels := by
  rw [State.enterQuiescing, State.changeMode_eq run]
  rfl

/-- Each port of a part whose ports have been told (R139, R140). -/
theorem State.port_told (s t : State) (f : Port → Port) (p : PortId) : (t.withPorts (s.mapPorts f).ports).port p = f (s.port p) :=
  State.port_mapPorts s f p

theorem State.enterStop_eq {s : State} {old : Mode} (mode : s.mc.mode = old) (cause : ModeCause) : s.enterStop cause =
    (s.withMode .stop (.modeChanged .stop old cause)).withPorts (s.mapPorts Port.modeEntersStop).ports := by
  rw [State.enterStop, State.changeMode_eq mode]
  rfl

theorem State.leaveStop_eq {s : State} (stop : s.mc.mode = .stop) (cause : ModeCause) : s.leaveStop cause =
    (s.withMode .run (.modeChanged .run .stop cause)).withPorts (s.mapPorts Port.modeLeavesStop).ports := by
  rw [State.leaveStop, State.changeMode_eq stop]
  rfl

/-- The passage to QUIET, and no further (R137). -/
theorem State.reachQuiet_stays {s : State} (quiescing : s.mc.mode = .quiescing) (stays : s.mc.stopOnQuiet = false) :
    s.reachQuiet = s.withMode .quiet (.modeChanged .quiet .quiescing .quietReached) := by
  simp only [State.reachQuiet, stays, State.changeMode_eq quiescing]
  rfl

/-- The passage to QUIET, and with stop-on-quiet on to STOP (R138). -/
theorem State.reachQuiet_stops {s : State} (quiescing : s.mc.mode = .quiescing) (stops : s.mc.stopOnQuiet = true) :
    s.reachQuiet =
      ((((s.withMode .quiet (.modeChanged .quiet .quiescing .quietReached)).setStopOnQuiet false).withMode .stop
        (.modeChanged .stop .quiet .quietReached)).withPorts (s.mapPorts Port.modeEntersStop).ports) := by
  simp only [State.reachQuiet, stops, State.changeMode_eq quiescing, if_true]
  rw [State.enterStop_eq (old := .quiet) rfl]
  rfl

/-- QUIESCING with the quiesce conditions met, and nothing to dispatch, becomes QUIET in what follows (R136, R137). -/
theorem State.followUp_quiet {s : State} (due : s.mc.quietDue = true) (queue : s.requestQueue = []) (stays : s.mc.stopOnQuiet = false) :
    s.followUp.mc.mode = .quiet ∧ s.followUp.mc.timer = s.mc.timer ∧
      s.followUp.nu = s.nu.raise (.modeChanged .quiet .quiescing .quietReached) := by
  obtain ⟨quiescing, -⟩ := (ModeController.quietDue_iff _).1 due
  have dispatched : s.dispatchAll = s := State.dispatchAll_none (State.oldestDispatchable_none.2 (by simp [queue]))
  have tested : s.dispatchAll.testQuiet = s.withMode .quiet (.modeChanged .quiet .quiescing .quietReached) := by
    rw [dispatched, State.testQuiet, if_pos due, State.reachQuiet_stays quiescing stays]
  have arbiter : ∀ t p, FollowUpFrame t (t.arbitrate p) := fun t p =>
    State.arbitrate_keeps (P := FollowUpFrame t) (fun _ h => h.trans (.serve _ p)) (fun _ h => h.trans (.settle _ p)) (.refl t)
  have arbiters : FollowUpFrame s.dispatchAll.testQuiet s.followUp :=
    (((arbiter _ 0).trans (arbiter _ 1)).trans (arbiter _ 2)).trans (arbiter _ 3)
  rw [tested] at arbiters
  obtain ⟨mode, notices⟩ := arbiters.quiet (by show Mode.quiet ≠ .quiescing; decide)
  obtain ⟨-, timer, -⟩ := arbiters.modes
  exact ⟨mode, timer, notices⟩

/-- A quench with the quiesce conditions met passes on to QUIET (R136, R137). -/
theorem State.quiesced_quiet (s : State) (cause : ModeCause) (channels : Vector Channel 2) (queue : s.requestQueue = [])
    (empty : s.mc.queueEmpty = true) (untracked : s.mc.trackingEmpty = true) (still : s.mc.unitsInFlight = false)
    (stays : s.mc.stopOnQuiet = false) :
    let t := ((s.withMode .quiescing (.modeChanged .quiescing .run cause)).withEngine false channels).followUp
    t.mc.mode = .quiet ∧ t.mc.timer = s.mc.timer ∧
      t.nu = (s.nu.raise (.modeChanged .quiescing .run cause)).raise (.modeChanged .quiet .quiescing .quietReached) :=
  State.followUp_quiet ((ModeController.quietDue_iff _).2 ⟨rfl, empty, untracked, still⟩) queue stays

/-- QUIET_REACHED takes the mode on (R137, R138). -/
theorem exec_quietReached {s : State} (due : s.mc.mode = .quiescing ∧ s.mc.queueEmpty = true ∧ s.mc.trackingEmpty = true ∧
    s.mc.unitsInFlight = false) : exec .quietReached s = .next s.reachQuiet.followUp :=
  congrArg Host.Outcome.next (if_pos ((ModeController.quietDue_iff _).2 due))

/-! ## QUIESCE, RESUME and STOP by the mode (R136, R139, R140) -/

section
variable {s : State} {f : MgmtFrame} (accepted : CommandAccepted s f 0)
include accepted

/-- QUIESCE in RUN: the mode changes, the engine is quenched, and what follows follows (R136). -/
theorem exec_quiesce_run (run : s.mc.mode = .run) : exec (.quiesce f) s = .next (State.followUp
    (((s.answeredOk f .quiesce []).withMode .quiescing (.modeChanged .quiescing .run .quiesce)).withEngine false
      (s.mapChannels Channel.quench).channels)) := by
  have act : quiesceAct f (s.answerDeferred f .quiesce) = ((s.answerDeferred f .quiesce).enterQuiescing .quiesce, .done) := by
    rw [quiesceAct, show (s.answerDeferred f .quiesce).mc.mode = .run from run]
  rw [State.enterQuiescing_eq (s := s.answerDeferred f .quiesce) run] at act
  exact congrArg Host.Outcome.next ((State.manage_done s _ .quiesce 0 f _ accepted act rfl).trans (congrArg State.followUp rfl))

theorem exec_quiesce_same (mode : s.mc.mode = .quiescing ∨ s.mc.mode = .quiet) :
    exec (.quiesce f) s = .next (s.answeredOk f .quiesce []) := by
  refine congrArg Host.Outcome.next (State.manage_read s .quiesce 0 f quiesceAct [] accepted ?_)
  rcases mode with mode | mode
  · rw [quiesceAct, show (s.answerDeferred f .quiesce).mc.mode = .quiescing from mode]
    rfl
  · rw [quiesceAct, show (s.answerDeferred f .quiesce).mc.mode = .quiet from mode]
    rfl

theorem exec_quiesce_stop (stop : s.mc.mode = .stop) : exec (.quiesce f) s = .next (s.answeredRefused f .quiesce .mode) := by
  refine congrArg Host.Outcome.next (State.manage_refused s .quiesce 0 f quiesceAct _ accepted ?_)
  rw [quiesceAct, show (s.answerDeferred f .quiesce).mc.mode = .stop from stop]
  rfl

theorem exec_resume_run (run : s.mc.mode = .run) : exec (.resume f) s = .next (s.answeredOk f .resume []) := by
  refine congrArg Host.Outcome.next (State.manage_read s .resume 0 f resumeAct [] accepted ?_)
  rw [resumeAct, show (s.answerDeferred f .resume).mc.mode = .run from run]
  rfl

theorem exec_resume_quiescing (quiescing : s.mc.mode = .quiescing) : exec (.resume f) s = .next
    (((s.answeredOk f .resume []).setStopOnQuiet false).withMode .run (.modeChanged .run .quiescing .resume)) := by
  have act : resumeAct f (s.answerDeferred f .resume) =
      (((s.answerDeferred f .resume).setStopOnQuiet false).changeMode .run .resume, .ok []) := by
    rw [resumeAct, show (s.answerDeferred f .resume).mc.mode = .quiescing from quiescing]
  rw [State.changeMode_eq (s := (s.answerDeferred f .resume).setStopOnQuiet false) quiescing] at act
  exact congrArg Host.Outcome.next (State.manage_ok s _ .resume 0 f _ [] accepted act rfl)

theorem exec_resume_quiet (quiet : s.mc.mode = .quiet) : exec (.resume f) s = .next
    ((s.answeredOk f .resume []).withMode .run (.modeChanged .run .quiet .resume)) := by
  have act : resumeAct f (s.answerDeferred f .resume) = ((s.answerDeferred f .resume).changeMode .run .resume, .ok []) := by
    rw [resumeAct, show (s.answerDeferred f .resume).mc.mode = .quiet from quiet]
  rw [State.changeMode_eq (s := s.answerDeferred f .resume) quiet] at act
  exact congrArg Host.Outcome.next (State.manage_ok s _ .resume 0 f _ [] accepted act rfl)

theorem exec_resume_stop (stop : s.mc.mode = .stop) : exec (.resume f) s = .next (State.followUp
    (((s.answeredOk f .resume []).withMode .run (.modeChanged .run .stop .resume)).withPorts
      (s.mapPorts Port.modeLeavesStop).ports)) := by
  have act : resumeAct f (s.answerDeferred f .resume) = ((s.answerDeferred f .resume).leaveStop .resume, .done) := by
    rw [resumeAct, show (s.answerDeferred f .resume).mc.mode = .stop from stop]
  rw [State.leaveStop_eq (s := s.answerDeferred f .resume) stop] at act
  exact congrArg Host.Outcome.next ((State.manage_done s _ .resume 0 f _ accepted act rfl).trans (congrArg State.followUp rfl))

theorem exec_stop_refused (mode : s.mc.mode = .run ∨ s.mc.mode = .quiescing) :
    exec (.stop f) s = .next (s.answeredRefused f .stop .mode) := by
  refine congrArg Host.Outcome.next (State.manage_refused s .stop 0 f stopAct _ accepted ?_)
  rcases mode with mode | mode
  · rw [stopAct, show (s.answerDeferred f .stop).mc.mode = .run from mode]
    rfl
  · rw [stopAct, show (s.answerDeferred f .stop).mc.mode = .quiescing from mode]
    rfl

theorem exec_stop_quiet (quiet : s.mc.mode = .quiet) : exec (.stop f) s = .next
    (((s.answeredOk f .stop []).withMode .stop (.modeChanged .stop .quiet .stop)).withPorts
      (s.mapPorts Port.modeEntersStop).ports) := by
  have act : stopAct f (s.answerDeferred f .stop) = ((s.answerDeferred f .stop).enterStop .stop, .ok []) := by
    rw [stopAct, show (s.answerDeferred f .stop).mc.mode = .quiet from quiet]
  rw [State.enterStop_eq (s := s.answerDeferred f .stop) quiet] at act
  exact congrArg Host.Outcome.next (State.manage_ok s _ .stop 0 f _ [] accepted act rfl)

theorem exec_stop_stop (stop : s.mc.mode = .stop) : exec (.stop f) s = .next (s.answeredOk f .stop []) := by
  refine congrArg Host.Outcome.next (State.manage_read s .stop 0 f stopAct [] accepted ?_)
  rw [stopAct, show (s.answerDeferred f .stop).mc.mode = .stop from stop]
  rfl

end

/-- Settles O47: the three commands mode by mode, and QUIET_REACHED. -/
theorem modeChanges : Obligations.ModeChanges := by
  intro f s
  refine ⟨fun accepted => ⟨fun run => ⟨?_, fun queue empty untracked still stays => ?_, exec_resume_run accepted run,
      exec_stop_refused accepted (.inl run)⟩,
    fun quiescing => ⟨exec_quiesce_same accepted (.inl quiescing), exec_resume_quiescing accepted quiescing,
      exec_stop_refused accepted (.inr quiescing)⟩,
    fun quiet => ⟨exec_quiesce_same accepted (.inr quiet), exec_resume_quiet accepted quiet, _, exec_stop_quiet accepted quiet, rfl,
      State.port_told s _ _⟩,
    fun stop => ⟨exec_quiesce_stop accepted stop, exec_stop_stop accepted stop, _, exec_resume_stop accepted stop, rfl,
      State.port_told s _ _⟩⟩,
    fun quiescing empty untracked still => ⟨fun stays => ?_, fun stops => ?_⟩⟩
  · exact ⟨_, exec_quiesce_run accepted run, rfl, State.channel_told s _ Channel.quench _⟩
  · obtain ⟨mode, -, notices⟩ := State.quiesced_quiet (s.answeredOk f .quiesce []) .quiesce (s.mapChannels Channel.quench).channels
      queue empty untracked still stays
    exact ⟨_, exec_quiesce_run accepted run, mode, notices⟩
  · have reached := exec_quietReached ⟨quiescing, empty, untracked, still⟩
    rw [State.reachQuiet_stays quiescing stays] at reached
    exact reached
  · have reached := exec_quietReached ⟨quiescing, empty, untracked, still⟩
    rw [State.reachQuiet_stops quiescing stops] at reached
    exact ⟨_, reached, rfl, State.port_told s _ _⟩

end Sys2Proof.Machine
end

section
/-! PROOFS. The expiry of the supervision timer (R144, R145), and a port when the mode enters STOP (R91). -/

namespace Sys2Proof.Machine

/-! ## A port when the mode enters STOP (R90, R91, R102) -/

theorem Port.modeEntersStop_other {q : Port} (other : q.state ≠ .active) : q.modeEntersStop = q := by
  unfold Port.modeEntersStop
  split
  next active => exact absurd active other
  · rfl

theorem Port.modeEntersStop_active {q : Port} (active : q.state = .active) : q.modeEntersStop =
    if q.anyIssued then { q with state := .settling .stopped } else q.enterStopped := by
  unfold Port.modeEntersStop
  split
  · rfl
  next other => exact absurd active other

/-! ## What an expiry does, by the mode (R145) -/

/-- The supervision timer restarted with the period held (R144). -/
def ModeController.freshTimer (m : ModeController) : SupervisionTimer :=
  if m.period = 0 then .off else .running (m.period.toNat * 4000)

/-- The state after an expiry but for what its mode adds: the notice, and the timer (R145). -/
def State.expired (s : State) : State :=
  { s with mc := { s.mc with timer := s.mc.freshTimer }, nu := s.nu.raise .supervisionExpired }

/-- An expiry with its time run out (R145, R148). -/
theorem exec_supervisionTimerExpiry_due {s : State} (due : s.mc.timer = .running 0) :
    exec .supervisionTimerExpiry s = .next (s.raise .supervisionExpired).superviseByMode := by
  show execSupervisionTimerExpiry s = _
  rw [execSupervisionTimerExpiry, due]
  rfl

theorem exec_supervisionTimerExpiry_same {s : State} (early : s.mc.timer ≠ .running 0) : exec .supervisionTimerExpiry s = .next s := by
  show execSupervisionTimerExpiry s = _
  unfold execSupervisionTimerExpiry
  split
  next due => exact absurd due early
  · rfl

section
variable {s : State} (due : s.mc.timer = .running 0)
include due

theorem exec_supervision_run (run : s.mc.mode = .run) : exec .supervisionTimerExpiry s = .next (State.followUp
    ((s.expired.withMode .quiescing (.modeChanged .quiescing .run .supervision)).withEngine false (s.mapChannels Channel.quench).channels)) := by
  rw [exec_supervisionTimerExpiry_due due, State.superviseByMode, show (s.raise .supervisionExpired).mc.mode = .run from run]
  simp only
  rw [State.enterQuiescing_eq (s := s.raise .supervisionExpired) run]
  rfl

theorem exec_supervision_quiescing (quiescing : s.mc.mode = .quiescing)
    (busy : s.mc.queueEmpty = false ∨ s.mc.trackingEmpty = false ∨ s.mc.unitsInFlight = true) :
    exec .supervisionTimerExpiry s = .next (s.expired.setStopOnQuiet true) := by
  have conditions : ¬ (s.raise .supervisionExpired).mc.quiesceConditions = true := by
    show ¬ s.mc.quiesceConditions = true
    simp only [ModeController.quiesceConditions, Bool.and_eq_true, Bool.not_eq_true', not_and]
    rintro ⟨empty, untracked⟩ still
    simp [empty, untracked, still] at busy
  rw [exec_supervisionTimerExpiry_due due, State.superviseByMode, show (s.raise .supervisionExpired).mc.mode = .quiescing from quiescing]
  simp only
  rw [if_neg conditions]
  rfl

theorem exec_supervision_quiet (quiet : s.mc.mode = .quiet) : exec .supervisionTimerExpiry s = .next
    ((s.expired.withMode .stop (.modeChanged .stop .quiet .supervision)).withPorts (s.mapPorts Port.modeEntersStop).ports) := by
  rw [exec_supervisionTimerExpiry_due due, State.superviseByMode, show (s.raise .supervisionExpired).mc.mode = .quiet from quiet]
  simp only
  rw [State.enterStop_eq (s := s.raise .supervisionExpired) quiet]
  rfl

theorem exec_supervision_stop (stop : s.mc.mode = .stop) : exec .supervisionTimerExpiry s = .next
    { s with mc := { s.mc with timer := .expired }, nu := s.nu.raise .supervisionExpired } := by
  rw [exec_supervisionTimerExpiry_due due, State.superviseByMode, show (s.raise .supervisionExpired).mc.mode = .stop from stop]
  rfl

end

/-- Settles O48: the expiry mode by mode, and a port under the entry of STOP. -/
theorem supervisionEscalates : Obligations.SupervisionEscalates := by
  refine ⟨fun s due => ⟨fun run => ⟨?_, fun queue empty untracked still stays => ?_⟩,
      exec_supervision_quiescing due, fun quiet => ?_, exec_supervision_stop due⟩,
    fun s early => exec_supervisionTimerExpiry_same early,
    fun q => ⟨fun active issued => ?_, fun active idle line => ?_, fun active idle line => ?_, Port.modeEntersStop_other⟩⟩
  · exact ⟨_, exec_supervision_run due run, rfl, State.channel_told s _ Channel.quench _⟩
  · obtain ⟨mode, timer, notices⟩ := State.quiesced_quiet s.expired .supervision (s.mapChannels Channel.quench).channels
      queue empty untracked still stays
    exact ⟨_, exec_supervision_run due run, mode, timer, notices⟩
  · exact ⟨_, exec_supervision_quiet due quiet, rfl, State.port_told s _ _⟩
  · rw [Port.modeEntersStop_active active, if_pos issued]
  · rw [Port.modeEntersStop_active active, if_neg (by simp [idle]), Port.enterStopped_eq]
    simp [line]
  · rw [Port.modeEntersStop_active active, if_neg (by simp [idle]), Port.enterStopped_eq]
    simp [line]

end Sys2Proof.Machine
end

section
/-! PROOFS. A raised notice (R149, R151). -/

namespace Sys2Proof.Machine

theorem Notice.not_sameIdentity {a b : Notice} (h : ¬ (a.kindCode = b.kindCode ∧ a.subject = b.subject)) : a.sameIdentity b = false := by
  rwa [← Bool.not_eq_true, Notice.sameIdentity_iff]

/-- Where one record has the identity of a notice, the merge changes that record only (R151). -/
theorem merge_one {pre post : List NoticeRecord} {r : NoticeRecord} {n : Notice} (same : r.notice.sameIdentity n = true)
    (others : ∀ x ∈ pre ++ post, x.notice.sameIdentity n = false) :
    ((pre ++ r :: post).map fun x => if x.notice.sameIdentity n then x.merge n else x) = pre ++ r.merge n :: post := by
  have kept : ∀ l : List NoticeRecord, (∀ x ∈ l, x.notice.sameIdentity n = false) →
      (l.map fun x => if x.notice.sameIdentity n then x.merge n else x) = l := fun l fresh => by
    rw [List.map_congr_left (g := id) (fun x mem => by simp [fresh x mem]), List.map_id]
  rw [List.map_append, List.map_cons, if_pos same, kept pre fun x mem => others x (List.mem_append_left _ mem),
    kept post fun x mem => others x (List.mem_append_right _ mem)]

/-- Settles O51: the four outcomes of a raised notice. -/
theorem raisedNotice : Obligations.RaisedNotice := by
  intro u n
  refine ⟨fun masked => NoticeUnit.raise_masked u n masked, fun pre r post enabled queue same others => ?_,
    fun enabled fresh => ⟨fun room => ?_, fun full => ?_⟩⟩
  · have known : r.notice.sameIdentity n = true := (Notice.sameIdentity_iff _ _).2 same
    rw [NoticeUnit.raise_merged u n enabled ⟨r, by simp [queue], known⟩, queue,
      merge_one known fun x mem => Notice.not_sameIdentity (others x mem)]
    rfl
  · rw [NoticeUnit.raise_new u n enabled fun x mem => Notice.not_sameIdentity (fresh x mem), if_pos room]
  · rw [NoticeUnit.raise_new u n enabled fun x mem => Notice.not_sameIdentity (fresh x mem), if_neg (by omega)]

end Sys2Proof.Machine
end

section
/-! PROOFS. The reads of the Boot Reader (R183, R184, R187): their issue, and what a completion or a timeout does to them. -/

namespace Sys2Proof.Machine

/-! ## The issue of a read (R86, R183) -/

theorem State.finishBoot_eq (s : State) (r : BootResult) : s.finishBoot r = s.bootFinished r := rfl

/-- The length of the next read (R183). -/
theorem BootReader.nextCount_eq (b : BootReader) : b.nextCount =
    if b.phase = .header then 4 else min 16 (13 + 4 * (b.staging.getD 1 0).toNat - b.staging.length) := by
  unfold BootReader.nextCount
  cases phase : b.phase with
  | header => rfl
  | body => rfl
  | finished => rfl

theorem State.issueBootRead_eq {s : State} {k : SlotId} {ks : List SlotId} (order : (s.port 0).freeOrder = k :: ks) :
    s.issueBootRead k =
      { s with
        boot := { s.boot with inFlight := some s.boot.nextRead }
        ports := s.ports.set 0 ((s.port 0).issued k ks .boot (.read s.boot.nextRead.address s.boot.nextRead.count)) } := by
  have issued : (s.port 0).issueIn k .boot (.read s.boot.nextRead.address s.boot.nextRead.count) =
      (s.port 0).issued k ks .boot (.read s.boot.nextRead.address s.boot.nextRead.count) := by
    simp only [Port.issueIn, Port.sendIn, Port.issued, order, List.tail_cons]
  exact congrArg (fun u : State => { u with boot := { s.boot with inFlight := some s.boot.nextRead } })
    (State.updPort_eq (f := fun q => q.issueIn k .boot (.read s.boot.nextRead.address s.boot.nextRead.count)) issued)

theorem exec_bootReadIssue_chosen {s : State} {k : SlotId} {ks : List SlotId} {r : BootRead} (chosen : s.arbiterChoice 0 = some .boot)
    (order : (s.port 0).freeOrder = k :: ks) (next : s.boot.nextRead = r) : exec .bootReadIssue s = .next (State.followUp
      { s with
        boot := { s.boot with inFlight := some r }
        ports := s.ports.set 0 ((s.port 0).issued k ks .boot (.read r.address r.count)) }) := by
  obtain ⟨-, -, boot, -⟩ := exec_serve s 0
  have served : s.serve 0 = s.issueBootRead k := by simp only [State.serve, chosen, order]
  rw [boot chosen rfl, served, State.issueBootRead_eq order, next]

/-! ## What ends a read (R184) -/

section
variable {s : State} {k : SlotId} {r : BootRead}

/-- A completion of the read in flight (R184). -/
theorem State.completeBoot_flight (flight : s.boot.inFlight = some r) (st : CompletionStatus) (data : List Word) :
    s.completeBoot 0 k st data =
      match st with
      | .ok =>
        if data.length = r.count then State.staged { s.slotFreed 0 k with boot := s.boot.stage data }
        else (s.slotFreed 0 k).bootFinished .rejectedAccess
      | .error => (s.slotFreed 0 k).bootFinished .rejectedAccess
      | .retry =>
        if r.retries < (s.port 0).config.retryLimit.toNat then
          { s.slotRetried 0 k with
            boot := { s.boot with inFlight := some { r with retries := r.retries + 1, state := .waiting } } }
        else (s.slotRetried 0 k).bootFinished .rejectedAccess := by
  cases st with
  | ok => simp only [State.completeBoot, flight, State.slotFreed_eq]; rfl
  | error => simp only [State.completeBoot, flight, State.slotFreed_eq]; rfl
  | retry => simp only [State.completeBoot, flight, State.slotRetried_eq]; rfl

theorem exec_completion_boot (held : HeldSlot s 0 k .boot) (st : CompletionStatus) (data : List Word) :
    exec (.completion 0 k st data) s = .next (s.completeBoot 0 k st data).followUp := exec_completion_held held st data

end

/-- Settles O49: the read that is issued, and the outcomes of its completion and of its timeout. -/
theorem bootReads : Obligations.BootReads := by
  intro s k
  refine ⟨fun ks chosen order => ⟨fun n none count => ?_, fun r flight => ?_⟩, fun r data held flight => ⟨?_, fun other => ?_,
    fun within => ?_, fun beyond => ?_, fun ran => ?_⟩⟩
  · have next : s.boot.nextRead = { address := s.boot.nextAddr, count := n, retries := 0, state := .issued } := by
      rw [count, ← BootReader.nextCount_eq]
      simp only [BootReader.nextRead, none]
    rw [exec_bootReadIssue_chosen chosen order next]
  · have next : s.boot.nextRead = { r with state := .issued } := by simp only [BootReader.nextRead, flight]
    rw [exec_bootReadIssue_chosen chosen order next]
  · rw [exec_completion_boot held, State.completeBoot_flight flight]
  · rw [exec_completion_boot held, State.completeBoot_flight flight]
    simp only [if_neg other]
  · rw [exec_completion_boot held, State.completeBoot_flight flight]
    simp only [if_pos within]
  · rw [exec_completion_boot held, State.completeBoot_flight flight]
    simp only [if_neg (Nat.not_lt.2 beyond)]
  · rw [exec_timeout_held held ran]
    have told : (s.slotTimedOut 0 k).timeoutHolder 0 .boot = (s.slotTimedOut 0 k).bootFinished .rejectedAccess := by
      have still : (s.slotTimedOut 0 k).boot.inFlight = some r := flight
      simp only [State.timeoutHolder, State.timeoutBoot, still, State.finishBoot_eq]
    rw [told]

end Sys2Proof.Machine
end

section
/-! PROOFS. The boot image: its checks in their order (R184, R185), and its records (R185, checks 4 and 5). -/

namespace Sys2Proof.Machine

/-! ## The checks that fall due when a read is staged (R184, R185) -/

/-- What the header decides (R185, checks 1 and 2). -/
theorem BootReader.headerResult_eq (b : BootReader) : b.headerResult =
    if b.staging.getD 0 0 ≠ 0x4D475231 then some .absent
    else if 32 < (b.staging.getD 1 0).toNat ∨ b.staging.getD 3 0 ≠ 0 then some .rejectedFormat
    else none := rfl

section
variable {t : State}

theorem State.staged_headerEnds {r : BootResult} (header : t.boot.phase = .header) (ends : t.boot.headerResult = some r) :
    t.staged = t.bootFinished r := by
  simp only [State.staged, header, ends, State.finishBoot_eq]

theorem State.staged_headerPasses (header : t.boot.phase = .header) (passes : t.boot.headerResult = none) :
    t.staged = { t with boot := { t.boot with phase := .body } } := by
  simp only [State.staged, header, passes]

/-- In BODY the checks wait for the last read (R183, R185). -/
theorem State.staged_body (body : t.boot.phase = .body) : t.staged =
    if 13 + 4 * (t.boot.staging.getD 1 0).toNat ≤ t.boot.staging.length then t.finishBody else t := by
  simp only [State.staged, body]
  rfl

theorem State.finishBody_check (sum : t.boot.staging.foldl (· + ·) 0 ≠ 0) : t.finishBody = t.bootFinished .rejectedCheck := if_pos sum

theorem State.finishBody_format (sum : t.boot.staging.foldl (· + ·) 0 = 0) (none : t.boot.records = none) :
    t.finishBody = t.bootFinished .rejectedFormat := by
  have passes : ¬ t.boot.sum ≠ 0 := not_not.2 sum
  rw [State.finishBody, if_neg passes, none]
  rfl

theorem State.finishBody_loaded {im : BootImage} (sum : t.boot.staging.foldl (· + ·) 0 = 0) (records : t.boot.records = some im) :
    t.finishBody = (t.applyImage im).bootFinished .loaded := by
  have passes : ¬ t.boot.sum ≠ 0 := not_not.2 sum
  rw [State.finishBody, if_neg passes, records]
  rfl

end

/-- The words of a read are staged, and the checks follow (R184). -/
theorem exec_completion_staged {s t : State} {k : SlotId} {r : BootRead} {data : List Word} (held : HeldSlot s 0 k .boot)
    (flight : s.boot.inFlight = some r) (count : data.length = r.count)
    (staged : t = { s.slotFreed 0 k with boot := s.boot.stage data }) :
    exec (.completion 0 k .ok data) s = .next t.staged.followUp := by
  rw [exec_completion_boot held, State.completeBoot_flight flight, staged]
  simp only [if_pos count]

/-! ## The records of the image (R185, checks 4 and 5) -/

theorem allPresent_iff {α : Type} (l : List (Option α)) (as : List α) : allPresent l = some as ↔ l = as.map some := by
  induction l generalizing as with
  | nil => cases as <;> simp [allPresent]
  | cons x xs ih => cases x <;> cases as <;> simp [allPresent, ih, and_comm]

/-- A list of values that are all present, place by place. -/
theorem map_range_eq_map_some {α : Type} (f : Nat → Option α) (n : Nat) (as : List α) :
    (List.range n).map f = as.map some ↔ as.length = n ∧ ∀ j, j < n → ∃ a, as[j]? = some a ∧ f j = some a := by
  constructor
  · intro same
    have length : as.length = n := by simpa using (congrArg List.length same).symm
    refine ⟨length, fun j small => ⟨as[j], by simp, ?_⟩⟩
    have place := congrArg (fun l => l[j]?) same
    simpa [small, length] using place
  · rintro ⟨length, present⟩
    refine List.ext_getElem (by simp [length]) fun j _ small => ?_
    obtain ⟨a, place, value⟩ := present j (by simpa [length] using small)
    have here : as[j]'(by simpa using small) = a := List.getElem?_eq_some_iff.1 place |>.2
    simp [value, here]

theorem map_finRange_eq_map_some {α : Type} {n : Nat} (f : Fin n → Option α) (as : List α) :
    (List.finRange n).map f = as.map some ↔ as.length = n ∧ ∀ p : Fin n, ∃ a, as[p.val]? = some a ∧ f p = some a := by
  constructor
  · intro same
    have length : as.length = n := by simpa using (congrArg List.length same).symm
    refine ⟨length, fun p => ⟨as[p.val], by simp, ?_⟩⟩
    have place := congrArg (fun l => l[p.val]?) same
    simpa [length] using place
  · rintro ⟨length, present⟩
    refine List.ext_getElem (by simp [length]) fun j _ small => ?_
    obtain ⟨a, place, value⟩ := present ⟨j, by simpa [length] using small⟩
    have here : as[j]'(by simpa using small) = a := List.getElem?_eq_some_iff.1 place |>.2
    simp [value, here]

theorem indexBelow_iff {n : Nat} (w : Word) (i : Fin n) : indexBelow n w = some i ↔ (field w 0 8).toNat = i.val := by
  constructor
  · intro names
    simp only [indexBelow, Option.dite_none_right_eq_some, Option.some.injEq] at names
    obtain ⟨_, rfl⟩ := names
    rfl
  · exact indexBelow_some i

/-- A window record of the image (12.4; R185, check 4). -/
theorem BootReader.windowRecordAt_iff (b : BootReader) (j : Nat) (i : WindowIdx) (c : Contents) :
    b.windowRecordAt j = some (i, c) ↔ (field (b.staging.getD (4 + 4 * j) 0) 0 8).toNat = i.val ∧
      windowRecord (b.staging.getD (4 + 4 * j) 0) (b.staging.getD (5 + 4 * j) 0) (b.staging.getD (6 + 4 * j) 0)
        (b.staging.getD (7 + 4 * j) 0) = some c := by
  rw [show 5 + 4 * j = 4 + 4 * j + 1 by omega, show 6 + 4 * j = 4 + 4 * j + 2 by omega, show 7 + 4 * j = 4 + 4 * j + 3 by omega,
    ← indexBelow_iff]
  show _ ↔ indexBelow 32 (b.word (4 + 4 * j)) = some i ∧
    windowRecord (b.word (4 + 4 * j)) (b.word (4 + 4 * j + 1)) (b.word (4 + 4 * j + 2)) (b.word (4 + 4 * j + 3)) = some c
  simp only [BootReader.windowRecordAt]
  cases indexBelow 32 (b.word (4 + 4 * j)) with
  | none => simp
  | some index =>
    cases windowRecord (b.word (4 + 4 * j)) (b.word (4 + 4 * j + 1)) (b.word (4 + 4 * j + 2)) (b.word (4 + 4 * j + 3)) <;> simp

/-- The enable field of a port record (12.5). -/
theorem enableFlag_iff (w : Word) (on : Bool) : enableFlag w = some on ↔ (field w 0 2).toNat = if on then 1 else 0 := by
  unfold enableFlag
  split
  next clear => cases on <;> simp [clear]
  next set => cases on <;> simp [set]
  next other notClear notSet =>
    constructor
    · exact nofun
    · cases on
      · exact fun clear => absurd clear notClear
      · exact fun set => absurd set notSet

/-- A port record of the image (12.5; R185, check 4). -/
theorem BootReader.portRecordAt_iff (b : BootReader) (p : PortId) (on : Bool) (c : PortConfig) :
    b.portRecordAt p = some (on, c) ↔
      (field (b.staging.getD (4 + 4 * (b.staging.getD 1 0).toNat + 2 * p.val) 0) 0 2).toNat = (if on then 1 else 0) ∧
      portRecord (b.staging.getD (4 + 4 * (b.staging.getD 1 0).toNat + 2 * p.val) 0)
        (b.staging.getD (5 + 4 * (b.staging.getD 1 0).toNat + 2 * p.val) 0) = some c := by
  rw [show 5 + 4 * (b.staging.getD 1 0).toNat + 2 * p.val = 4 + 4 * (b.staging.getD 1 0).toNat + 2 * p.val + 1 by omega, ← enableFlag_iff]
  show _ ↔ enableFlag (b.word (4 + 4 * b.windowCount + 2 * p.val)) = some on ∧
    portRecord (b.word (4 + 4 * b.windowCount + 2 * p.val)) (b.word (4 + 4 * b.windowCount + 2 * p.val + 1)) = some c
  simp only [BootReader.portRecordAt]
  cases enableFlag (b.word (4 + 4 * b.windowCount + 2 * p.val)) with
  | none => simp
  | some flag => cases portRecord (b.word (4 + 4 * b.windowCount + 2 * p.val)) (b.word (4 + 4 * b.windowCount + 2 * p.val + 1)) <;> simp

theorem windowsDistinct_iff (ws : List (WindowIdx × Contents)) : windowsDistinct ws = true ↔
    ws.Pairwise fun x y => x.1 ≠ y.1 ∧ rangesMeet x.2.range y.2.range = false := by
  induction ws with
  | nil => simp [windowsDistinct]
  | cons w ws ih =>
    rw [windowsDistinct, Bool.and_eq_true, ih, List.pairwise_cons, List.all_eq_true]
    refine and_congr_left' (forall₂_congr fun v mem => ?_)
    rw [Bool.and_eq_true, bne_iff_ne, Bool.not_eq_true', ne_comm]

/-- The supervision word (R146). -/
theorem supervisionWord_iff (w : Word) (x : BitVec 8 × Bool) : supervisionWord w = some x ↔
    w &&& 0xFFFFFE00 = 0 ∧ x = (field w 0 8, bit w 8) := by
  rw [supervisionWord, Option.ite_none_right_eq_some, zeroUnder, beq_iff_eq, Option.some.injEq, eq_comm (b := x)]

/-- An image has records when each of its parts has them (R185, checks 4 and 5). -/
theorem BootReader.records_iff (b : BootReader) (im : BootImage) : b.records = some im ↔
    allPresent ((List.range b.windowCount).map b.windowRecordAt) = some im.windows ∧
    windowsDistinct im.windows = true ∧
    allPresent ((List.finRange 4).map b.portRecordAt) = some im.ports ∧
    supervisionWord (b.word (12 + 4 * b.windowCount)) = some im.supervision := by
  obtain ⟨windows, ports, supervision⟩ := im
  unfold BootReader.records
  generalize allPresent ((List.range b.windowCount).map b.windowRecordAt) = ws
  generalize allPresent ((List.finRange 4).map b.portRecordAt) = ps
  generalize supervisionWord (b.word (12 + 4 * b.windowCount)) = sv
  rcases ws with _ | ws
  · simp
  rcases ps with _ | ps
  · simp
  rcases sv with _ | sv
  · simp
  by_cases distinct : windowsDistinct ws = true
  · simp only [distinct, if_true, Option.some.injEq, BootImage.mk.injEq]
    constructor
    · rintro ⟨rfl, rfl, rfl⟩
      exact ⟨rfl, distinct, rfl, rfl⟩
    · rintro ⟨rfl, -, rfl, rfl⟩
      exact ⟨rfl, rfl, rfl⟩
  · simp only [if_neg distinct]
    constructor
    · exact nofun
    · rintro ⟨same, overlaps, -⟩
      exact absurd (Option.some.inj same ▸ overlaps) distinct

/-! ## The application of the image (R186) -/

/-- Two reasons for no value, one after the other. -/
theorem ite_or_none {α : Type} (a b : Prop) [Decidable a] [Decidable b] (x : Option α) :
    (if a ∨ b then none else x) = if b then none else if a then none else x := by
  by_cases h : b <;> simp [h]

/-- The record of a port whose state agrees with its enable flag (R186). -/
theorem Port.applyRecord_keeps {q : Port} {on : Bool} (h : q.state ≠ .disabled ∧ on = true ∨ q.state = .disabled ∧ on = false)
    (c : PortConfig) : q.applyRecord on c = q.configure c := by
  rcases h with ⟨other, rfl⟩ | ⟨disabled, rfl⟩
  · cases state : q.state with
    | disabled => exact absurd state other
    | _ => simp only [Port.applyRecord, state]
  · simp only [Port.applyRecord, disabled]

/-- The record that enables a DISABLED port (R186). -/
theorem Port.applyRecord_enables {q : Port} (disabled : q.state = .disabled) (c : PortConfig) :
    q.applyRecord true c = (q.configure c).enable false := by
  simp only [Port.applyRecord, disabled]

/-- The record that disables a port (R186). -/
theorem Port.applyRecord_disables {q : Port} (other : q.state ≠ .disabled) (c : PortConfig) :
    q.applyRecord false c = { (q.configure c).disable with holdTimer := none } := by
  cases state : q.state with
  | disabled => exact absurd state other
  | _ => simp only [Port.applyRecord, state]

/-- The windows of an image (R5, R186). -/
theorem State.window_applyWindows (ws : List (WindowIdx × Contents)) (s : State) (distinct : (ws.map Prod.fst).Nodup) :
    (∀ r ∈ ws, (ws.foldl State.applyWindow s).window r.1 = Window.loaded r.2) ∧
      ∀ i, (∀ r ∈ ws, r.1 ≠ i) → (ws.foldl State.applyWindow s).window i = s.window i := by
  induction ws generalizing s with
  | nil => exact ⟨nofun, fun i _ => rfl⟩
  | cons w ws ih =>
    obtain ⟨fresh, rest⟩ := List.nodup_cons.1 (List.map_cons ▸ distinct)
    have others : ∀ r ∈ ws, r.1 ≠ w.1 := fun r mem same => fresh (same ▸ List.mem_map_of_mem mem)
    obtain ⟨loads, keeps⟩ := ih (s.applyWindow w) rest
    refine ⟨fun r mem => ?_, fun i other => ?_⟩
    · rcases List.mem_cons.1 mem with rfl | mem
      · rw [List.foldl_cons, keeps _ others, State.applyWindow, State.window_setWindow, if_pos rfl]
      · exact loads r mem
    · rw [List.foldl_cons, keeps i fun r mem => other r (List.mem_cons_of_mem _ mem), State.applyWindow, State.window_setWindow,
        if_neg (other w List.mem_cons_self)]

/-- What a LOADED image leaves as it is (R186). -/
theorem State.applyImage_frame (s : State) (im : BootImage) :
    { s.applyImage im with windows := s.windows, ports := s.ports, mc := s.mc } = s :=
  State.applyImage_keeps (g := fun t => { t with windows := s.windows, ports := s.ports, mc := s.mc })
    (fun _ _ _ => rfl) (fun _ _ _ => rfl) (fun _ _ _ => rfl) s im

theorem State.applyImage_mc (s : State) (im : BootImage) :
    (s.applyImage im).mc = { s.mc with period := im.supervision.1, wakeOnRequest := im.supervision.2 } := by
  have ports : ∀ (t : State) p, (t.applyPort im.ports p).mc = t.mc := fun t p => by
    unfold State.applyPort
    split <;> rfl
  have windows : (im.windows.foldl State.applyWindow s).mc = s.mc := State.applyWindows_keeps (g := State.mc) (fun _ _ _ => rfl) _ _
  simp only [State.applyImage, ports, windows]

theorem State.port_applyImage_of {s : State} {im : BootImage} {p : PortId} {on : Bool} {c : PortConfig}
    (record : im.ports[p.val]? = some (on, c)) : (s.applyImage im).port p = (s.port p).applyRecord on c := by
  simp only [State.port_applyImage, BootImage.applyTo, record]

/-- Settles O50: the checks in their order, the records, and their application. -/
theorem bootImageIsValidatedAndApplied : Obligations.BootImageIsValidatedAndApplied := by
  refine ⟨fun s t k r data words held flight count staging staged => ?_, fun b im => ?_, fun s im distinct =>
    ⟨fun r mem => ?_, fun i other => ?_, fun p on c record => ⟨fun disabled sets => ?_, fun agrees => ?_, fun other clears => ?_⟩,
      fun _ => s.applyImage_frame im, s.applyImage_mc im⟩⟩
  · have phase : t.boot.phase = s.boot.phase := by rw [staged]
    have stages : t.boot.staging = words := by rw [staged]
    have done := exec_completion_staged held flight count (staged.trans (by rw [staging]; rfl))
    have header := BootReader.headerResult_eq t.boot
    rw [stages] at header
    refine ⟨fun inHeader => ⟨fun absent => ?_, fun marked bad => ?_, fun marked few zero => ?_⟩,
      fun inBody => ?_⟩
    · rw [done, State.staged_headerEnds (phase.trans inHeader) (header.trans (if_pos absent))]
    · rw [done, State.staged_headerEnds (phase.trans inHeader)
        (header.trans ((if_neg (not_not.2 marked)).trans (if_pos bad)))]
    · have passes : ¬ (32 < (words.getD 1 0).toNat ∨ words.getD 3 0 ≠ 0) := not_or.2 ⟨Nat.not_lt.2 few, not_not.2 zero⟩
      rw [done, State.staged_headerPasses (phase.trans inHeader)
        (header.trans ((if_neg (not_not.2 marked)).trans (if_neg passes)))]
    · have body := State.staged_body (phase.trans inBody)
      rw [stages] at body
      refine ⟨fun more => ?_, fun all => ⟨fun sum => ?_, fun sum none => ?_, fun im sum records => ?_⟩⟩
      · rw [done, body, if_neg (Nat.not_le.2 more)]
      · rw [done, body, if_pos all, State.finishBody_check (by rw [stages]; exact sum)]
      · rw [done, body, if_pos all, State.finishBody_format (by rw [stages]; exact sum) none]
      · rw [done, body, if_pos all, State.finishBody_loaded (by rw [stages]; exact sum) records]
  · rw [BootReader.records_iff, allPresent_iff, allPresent_iff, map_range_eq_map_some, map_finRange_eq_map_some, windowsDistinct_iff,
      supervisionWord_iff]
    simp only [Prod.exists, BootReader.windowRecordAt_iff, BootReader.portRecordAt_iff]
    constructor
    · rintro ⟨⟨length, windows⟩, apart, ⟨four, ports⟩, zero, supervision⟩
      exact ⟨length, windows, apart, four, ports, zero, supervision⟩
    · rintro ⟨length, windows, apart, four, ports, zero, supervision⟩
      exact ⟨⟨length, windows⟩, apart, ⟨four, ports⟩, zero, supervision⟩
  · rw [State.window_applyImage]
    exact (State.window_applyWindows im.windows s distinct).1 r mem
  · rw [State.window_applyImage]
    exact (State.window_applyWindows im.windows s distinct).2 i other
  · subst sets
    rw [State.port_applyImage_of record, Port.applyRecord_enables disabled, Port.configure_eq]
    refine (Port.enable_eq _ .run).trans ?_
    simp
  · rw [State.port_applyImage_of record, Port.applyRecord_keeps agrees, Port.configure_eq]
    rw [ite_or_none]
  · subst clears
    rw [State.port_applyImage_of record, Port.applyRecord_disables other, Port.disable_eq, Port.configure_eq]

end Sys2Proof.Machine
end

section
/-! PROOFS. Frames on the Request Link (chapters 10 and 12): the check field, and the frames that the part sends. -/

namespace Sys2Proof.Machine

/-! ## The check field (R171) -/

@[simp] theorem length_sealed (bytes : List Byte) : (sealed bytes).length = bytes.length + 2 := by simp [sealed, checkField]

@[simp] theorem beforeCheck_sealed (bytes : List Byte) : beforeCheck (sealed bytes) = bytes := by
  rw [beforeCheck, length_sealed, Nat.add_sub_cancel, sealed, List.take_left]

/-- One byte of the CRC is eight bits of it (R171). -/
theorem crc_concat (bytes : List Byte) (b : Byte) : crc (bytes ++ [b]) =
    (List.range 8).foldl (fun c _ => if c.msb then (c <<< 1) ^^^ 0x1021 else c <<< 1) (crc bytes ^^^ (b.setWidth 16 <<< 8)) := by
  rw [crc, List.foldl_append]
  rfl

theorem crcCorrect_iff (frame : List Byte) : crcCorrect frame = true ↔ 3 ≤ frame.length ∧ ∃ bytes, frame = sealed bytes := by
  simp only [crcCorrect, Bool.and_eq_true, decide_eq_true_eq, beq_iff_eq]
  refine and_congr_right' ⟨fun same => ⟨_, same⟩, ?_⟩
  rintro ⟨bytes, rfl⟩
  rw [beforeCheck_sealed]

/-- Every frame with a kind byte passes the CRC test once it carries its check field (R171). -/
theorem crcCorrect_sealed {bytes : List Byte} : crcCorrect (sealed bytes) = true ↔ bytes ≠ [] := by
  rw [crcCorrect_iff, length_sealed, ← List.length_pos_iff]
  exact ⟨fun ⟨long, _⟩ => by omega, fun long => ⟨by omega, _, rfl⟩⟩

theorem length_flatMap_bytesOf (ws : List Word) : (ws.flatMap bytesOf).length = 4 * ws.length := by
  induction ws with
  | nil => rfl
  | cons w ws ih =>
    rw [List.flatMap_cons, List.length_append, ih, List.length_cons]
    simp only [bytesOf, List.length_cons, List.length_nil]
    omega

/-- A number below 256 is what its byte carries. -/
theorem toNat_byte {n : Nat} (h : n < 256) : (byte n).toNat = n := by
  rw [byte, BitVec.toNat_ofNat, Nat.mod_eq_of_lt h]

/-! ## Codes and detail words (12.2) -/

/-- Two numbers side by side in one word. -/
theorem num_or_shift {a k : Nat} (b : Nat) (h : a < 2 ^ k) : num a ||| num b <<< k = num (a + b * 2 ^ k) := by
  refine BitVec.eq_of_getLsbD_eq fun i hi => ?_
  have bits : (a + b * 2 ^ k).testBit i = (a.testBit i || (decide (k ≤ i) && b.testBit (i - k))) := by
    rw [← Nat.testBit_shiftLeft, ← Nat.testBit_or, Nat.add_comm, ← Nat.shiftLeft_eq, Nat.shiftLeft_add_eq_or_of_lt h, Nat.or_comm]
  simp only [num, BitVec.getLsbD_or, BitVec.getLsbD_shiftLeft, BitVec.getLsbD_ofNat, hi, bits]
  by_cases inside : k ≤ i
  · simp [inside, show ¬ i < k by omega, show i - k < 32 by omega]
  · simp [inside, show i < k by omega]

theorem place_low {n : Nat} (x : BitVec n) : place x 0 = BitVec.ofNat 32 x.toNat := by
  rw [place, BitVec.shiftLeft_zero]
  exact BitVec.eq_of_toNat_eq (by rw [BitVec.toNat_setWidth, BitVec.toNat_ofNat])

theorem Reason.code_le (r : Reason) : r.code ≤ 20 := by cases r <;> decide

theorem Notice.kindCode_le (n : Notice) : n.kindCode ≤ 14 := by cases n <;> simp [Notice.kindCode]

theorem Notice.length_detailWords (n : Notice) : n.detailWords.length ≤ 2 := by cases n <;> simp [Notice.detailWords]

theorem Subject.code_lt (x : Subject) : x.code < 256 := by
  cases x with
  | link => decide
  | window i => exact i.isLt.trans (by decide)
  | port p => exact p.isLt.trans (by decide)
  | channel c => exact c.isLt.trans (by decide)
  | mode m => cases m <;> decide

theorem Notice.detailWords_postedFault (w : WindowIdx) (q : Requester) (g : Tag) (a : Word) (x : Reason) :
    (Notice.postedFault w q g a x).detailWords = [BitVec.ofNat 32 (g.val + 0x100 * q.val + 0x10000 * x.code), a] := by
  have tag := g.isLt
  have requester := q.isLt
  rw [Notice.detailWords, num_or_shift (k := 8) _ (by omega), num_or_shift (k := 16) _ (by omega), num]
  congr 2
  omega

theorem Notice.detailWords_upkeepFailed (p : PortId) (row : Row) : (Notice.upkeepFailed p row).detailWords = [BitVec.ofNat 32 row.toNat] := by
  rw [Notice.detailWords, place_low]

theorem Notice.detailWords_copyFault (c : ChannelId) (h : Half) (x : Reason) (n : Nat) :
    (Notice.copyFault c h x n).detailWords = [BitVec.ofNat 32 (h.code + 0x100 * x.code), BitVec.ofNat 32 n] := by
  have half : h.code < 2 := by cases h <;> decide
  rw [Notice.detailWords, num_or_shift (k := 8) _ (by omega), Nat.mul_comm]
  rfl

theorem Notice.detailWords_modeChanged (m v : Mode) (z : ModeCause) :
    (Notice.modeChanged m v z).detailWords = [BitVec.ofNat 32 (v.code + 0x100 * z.code)] := by
  have mode : v.code < 5 := by cases v <;> decide
  rw [Notice.detailWords, num_or_shift (k := 8) _ (by omega), Nat.mul_comm]
  rfl

/-! ## The frames that the part sends (12.2, R191) -/

/-- The first eight bytes of a RESPONSE. -/
def Response.header (r : Response) : List Byte :=
  [0x81, byte (10 + 4 * r.data.length), byte (r.pool.code * 64 + r.requester.val * 8), byte r.tag.val,
   byte r.status.code, byte r.status.reasonCode, byte r.marks, byte r.data.length]

theorem Response.body_eq (r : Response) : r.body = r.header ++ r.data.flatMap bytesOf := rfl

/-- The first eight bytes of a NOTICE. -/
def NoticeRecord.header (n : NoticeRecord) (lost : Nat) : List Byte :=
  [0x82, byte (10 + 4 * n.notice.detailWords.length), byte n.notice.kindCode, byte n.notice.subject.code, byte n.count,
   byte n.notice.detailWords.length, byte (lost / 256), byte lost]

theorem NoticeRecord.body_eq (n : NoticeRecord) (lost : Nat) : n.body lost = n.header lost ++ n.notice.detailWords.flatMap bytesOf := rfl

/-- The length byte of a frame is its number of bytes (12.2). -/
theorem SentFrame.length_byte (f : SentFrame) (fits : ∀ r, f = .response r → r.data.length ≤ 61) :
    (byteAt f.bytes 1).toNat = f.bytes.length := by
  cases f with
  | response r =>
    have := fits r rfl
    have length : (SentFrame.response r).bytes.length = 10 + 4 * r.data.length := by
      rw [SentFrame.bytes, length_sealed, SentFrame.body, Response.body_eq, List.length_append, length_flatMap_bytesOf]
      simp only [Response.header, List.length_cons, List.length_nil]
      omega
    rw [length]
    exact toNat_byte (by omega)
  | notice n lost =>
    have := n.notice.length_detailWords
    have length : (SentFrame.notice n lost).bytes.length = 10 + 4 * n.notice.detailWords.length := by
      rw [SentFrame.bytes, length_sealed, SentFrame.body, NoticeRecord.body_eq, List.length_append, length_flatMap_bytesOf]
      simp only [NoticeRecord.header, List.length_cons, List.length_nil]
      omega
    rw [length]
    exact toNat_byte (by omega)
  | credit => rfl

/-- Byte 2 of a RESPONSE carries its pool and its requester (12.2). -/
theorem pool_requester_byte (l : Pool) (q : Requester) :
    ((byte (l.code * 64 + q.val * 8)).extractLsb' 6 2).toNat = (if l = .data then 0 else 1) ∧
    ((byte (l.code * 64 + q.val * 8)).extractLsb' 3 3).toNat = q.val ∧ ((byte (l.code * 64 + q.val * 8)).extractLsb' 0 3).toNat = 0 := by
  revert q
  cases l <;> decide

/-- Byte 6 of a RESPONSE carries its marks (12.2). -/
theorem Response.marks_byte (r : Response) : (byte r.marks).getLsbD 0 = r.partialMark ∧ (byte r.marks).getLsbD 1 = r.swapped.isSome ∧
    (byte r.marks).getLsbD 2 = (r.swapped == some true) ∧ (byte r.marks).toNat < 8 := by
  unfold Response.marks
  cases r.partialMark <;> rcases r.swapped with _ | _ | _ <;> decide

theorem Status.codes_byte (x : Status) : (byte x.code).toNat = x.code ∧ (byte x.reasonCode).toNat = x.reasonCode := by
  refine ⟨toNat_byte (by cases x <;> simp [Status.code]), toNat_byte ?_⟩
  cases x with
  | ok => decide
  | refused r => exact lt_of_le_of_lt r.code_le (by decide)
  | fault r => exact lt_of_le_of_lt r.code_le (by decide)

/-- Settles O11: the check, the codes, and the bytes of each frame that the part sends. -/
theorem sentFramesCarryTheirCheck : Obligations.SentFramesCarryTheirCheck := by
  refine ⟨⟨⟨rfl, crc_concat⟩, crcCorrect_iff, fun _ => rfl, fun _ => rfl⟩,
    ⟨by decide, by decide, by decide, by decide, by decide, by decide⟩,
    fun b w q g a x p k row c n h m v z l => ⟨rfl, rfl, ?_⟩,
    fun f => ⟨?_, f.length_byte⟩, fun r fits => ?_, fun n lost count few => ?_, _, _, rfl⟩
  · simp only [List.map_cons, Notice.detailWords_postedFault, Notice.detailWords_upkeepFailed, Notice.detailWords_copyFault,
      Notice.detailWords_modeChanged]
    rfl
  · rw [SentFrame.bytes, crcCorrect_sealed]
    cases f <;> exact List.cons_ne_nil _ _
  · obtain ⟨pool, requester, zero⟩ := pool_requester_byte r.pool r.requester
    obtain ⟨part, swapped, yes, small⟩ := r.marks_byte
    obtain ⟨status, reason⟩ := r.status.codes_byte
    refine ⟨r.header, _, _, rfl, rfl, rfl, pool, requester, zero, toNat_byte (r.tag.isLt.trans (by decide)), status.trans ?_,
      reason.trans ?_, part, swapped, yes, small, toNat_byte (by omega)⟩
    · cases r.status <;> rfl
    · cases r.status <;> rfl
  · have words := n.notice.length_detailWords
    have kind := n.notice.kindCode_le
    refine ⟨n.header lost, _, _, rfl, rfl, rfl, toNat_byte (by omega), (toNat_byte n.notice.subject.code_lt).trans ?_,
      toNat_byte (by omega), toNat_byte (by omega), ?_⟩
    · cases n.notice.subject <;> rfl
    · have high : (byte (lost / 256)).toNat = lost / 256 := toNat_byte (by omega)
      have low : (byte lost).toNat = lost % 256 := BitVec.toNat_ofNat lost 8
      show (byte (lost / 256)).toNat * 256 + (byte lost).toNat = lost
      omega

end Sys2Proof.Machine
end

section
/-! PROOFS. Frames on the Request Link (chapters 10 and 12): how a received frame is read, and how the line is cut into frames. -/

namespace Sys2Proof.Machine

/-! ## Words and bytes (R190) -/

/-- A word is its four bytes, each in its place. -/
theorem wordOf_eq (a b c d : Byte) : wordOf a b c d = place a 24 ||| place b 16 ||| place c 8 ||| place d 0 := by
  simp only [wordOf, place, BitVec.shiftLeft_zero]

theorem bytesOf_wordOf (a b c d : Byte) : bytesOf (wordOf a b c d) = [a, b, c, d] := by
  show [field (wordOf a b c d) 24 8, field (wordOf a b c d) 16 8, field (wordOf a b c d) 8 8, field (wordOf a b c d) 0 8] = _
  rw [wordOf_eq]
  simp

theorem wordOf_bytesOf (w : Word) : wordOf (field w 24 8) (field w 16 8) (field w 8 8) (field w 0 8) = w := by
  refine BitVec.eq_of_getLsbD_eq fun i hi => ?_
  have byte : ∀ lo, (place (field w lo 8) lo).getLsbD i = (decide (lo ≤ i ∧ i < lo + 8) && w.getLsbD i) := fun lo => by
    rw [getLsbD_place _ lo i hi, field, BitVec.getLsbD_extractLsb']
    by_cases low : lo ≤ i
    · simp [low, show lo + (i - lo) = i by omega, show i - lo < 8 ↔ i < lo + 8 by omega]
    · simp [low]
  simp only [wordOf_eq, BitVec.getLsbD_or, byte]
  cases w.getLsbD i with
  | false => simp
  | true =>
    simp only [Bool.and_true, ← Bool.decide_or, decide_eq_true_eq]
    omega

/-- Whole words are read back from their bytes. -/
theorem wordsOf_flatMap_bytesOf (ws : List Word) : wordsOf (ws.flatMap bytesOf) = ws := by
  induction ws with
  | nil => rfl
  | cons w ws ih =>
    rw [List.flatMap_cons]
    show wordOf (field w 24 8) (field w 16 8) (field w 8 8) (field w 0 8) :: wordsOf (ws.flatMap bytesOf) = _
    rw [ih, wordOf_bytesOf]

/-! ## The command codes (12.3) -/

/-- The codes that name a command (12.3). -/
def commandCodes : List Byte := [0x10, 0x11, 0x12, 0x13, 0x14, 0x20, 0x21, 0x22, 0x23, 0x24, 0x30, 0x31, 0x32, 0x33, 0x34, 0x35, 0x36,
  0x40, 0x41, 0x42, 0x43, 0x44, 0x50, 0x60, 0x61, 0x62, 0x63, 0x70]

theorem commandOf_unknown (f : MgmtFrame) {b : Byte} (unknown : b ∉ commandCodes) : commandOf b f = .unknownCommand b f := by
  have other : ∀ n ∈ commandCodes.map BitVec.toNat, b.toNat ≠ n := by
    intro n mem same
    obtain ⟨c, known, rfl⟩ := List.mem_map.1 mem
    exact unknown (BitVec.eq_of_toNat_eq same ▸ known)
  unfold commandOf
  split
  case h_29 => rfl
  all_goals exact absurd ‹b.toNat = _› (other _ (by decide))

/-! ## The frame check (R171) -/

theorem kindAccepted_iff (body : List Byte) : kindAccepted body = true ↔
    (byteAt body 0 = 1 ∧ 4 ≤ body.length ∧ poolField body ≤ 1) ∨ byteAt body 0 = 2 ∨ byteAt body 0 = 3 := by
  have kind : ∀ n : Byte, byteAt body 0 = n ↔ (byteAt body 0).toNat = n.toNat := fun n => BitVec.toNat_inj.symm
  rw [kind 1, kind 2, kind 3]
  unfold kindAccepted
  split
  next one => simp [one]
  next two => simp [two]
  next three => simp [three]
  next one two three =>
    refine ⟨nofun, ?_⟩
    rintro (⟨is, _⟩ | is | is)
    exacts [absurd is one, absurd is two, absurd is three]

/-- A pool field that names neither pool (12.2). -/
theorem poolField_other {body : List Byte} (notData : (byteAt body 2).extractLsb' 6 2 ≠ 0)
    (notManagement : (byteAt body 2).extractLsb' 6 2 ≠ 1) : ¬ poolField body ≤ 1 := by
  have data : poolField body ≠ 0 := fun is => notData (BitVec.eq_of_toNat_eq is)
  have management : poolField body ≠ 1 := fun is => notManagement (BitVec.eq_of_toNat_eq is)
  omega

theorem frameCheck_sealed (body : List Byte) : frameCheck (sealed body) = true ↔ body ≠ [] ∧ kindAccepted body = true := by
  rw [frameCheck, Bool.and_eq_true, crcCorrect_sealed, beforeCheck_sealed]

theorem receivedFrame_fails {frame : List Byte} (fails : frameCheck frame ≠ true) : receivedFrame frame = .frameCheckFailed := by
  rw [receivedFrame]
  simp [fails]

/-- The grounds on which a REQUEST is malformed (R190). -/
theorem isMalformed_request {body : List Byte} (request : byteAt body 0 = 1) : isMalformed (sealed body) = true ↔
    (byteAt body 1).toNat ≠ body.length + 2 ∨ body.length < headerBytes body ∨ (body.length - headerBytes body) % 4 ≠ 0 ∨
      ((byteAt body 2).extractLsb' 0 3 ≠ 0 ∨ (byteAt body 3).extractLsb' 6 2 ≠ 0) ∨ poolField body = 1 ∧ byteAt body 5 ≠ 0 := by
  rw [isMalformed, beforeCheck_sealed, length_sealed, request]
  simp [or_assoc]

/-- The grounds on which an IDLE or a LINK RESET is malformed (R190). -/
theorem isMalformed_other {body : List Byte} (other : byteAt body 0 ≠ 1) : isMalformed (sealed body) =
    decide ((byteAt body 1).toNat ≠ body.length + 2 ∨ body.length ≠ 2) := by
  have kind : (byteAt body 0).toNat ≠ 1 := fun is => other (BitVec.eq_of_toNat_eq is)
  rw [isMalformed, beforeCheck_sealed, length_sealed]
  rw [Bool.eq_iff_iff]
  simp [kind]

theorem receivedFrame_idle {body : List Byte} (idle : byteAt body 0 = 2) : receivedFrame (sealed body) =
    .idle (decide ((byteAt body 1).toNat ≠ body.length + 2 ∨ body.length ≠ 2)) := by
  have checked : frameCheck (sealed body) = true := by
    rw [frameCheck_sealed, kindAccepted_iff]
    refine ⟨?_, .inr (.inl idle)⟩
    rintro rfl
    exact absurd idle (by decide)
  rw [← isMalformed_other (by rw [idle]; decide), receivedFrame, beforeCheck_sealed, idle]
  simp [checked]

theorem receivedFrame_linkReset {body : List Byte} (reset : byteAt body 0 = 3) : receivedFrame (sealed body) =
    .linkReset (decide ((byteAt body 1).toNat ≠ body.length + 2 ∨ body.length ≠ 2)) := by
  have checked : frameCheck (sealed body) = true := by
    rw [frameCheck_sealed, kindAccepted_iff]
    refine ⟨?_, .inr (.inr reset)⟩
    rintro rfl
    exact absurd reset (by decide)
  rw [← isMalformed_other (by rw [reset]; decide), receivedFrame, beforeCheck_sealed, reset]
  simp [checked]

/-- A REQUEST is read by its pool (12.2, 12.3). -/
theorem receivedFrame_request {body : List Byte} (request : byteAt body 0 = 1) (long : 4 ≤ body.length) (pool : poolField body ≤ 1) :
    receivedFrame (sealed body) =
      if poolField body = 0 then
        .dataRequest
          { requester := requesterField body, tag := tagField body, malformed := isMalformed (sealed body)
            kindCode := byteAt body 4, length := byteAt body 5
            address := wordOf (byteAt body 6) (byteAt body 7) (byteAt body 8) (byteAt body 9), payload := wordsOf (body.drop (headerBytes body)) }
      else
        commandOf (byteAt body 4)
          { requester := requesterField body, tag := tagField body, malformed := isMalformed (sealed body)
            operands := wordsOf (body.drop (headerBytes body)) } := by
  have checked : frameCheck (sealed body) = true := by
    rw [frameCheck_sealed, kindAccepted_iff]
    refine ⟨?_, .inl ⟨request, long, pool⟩⟩
    rintro rfl
    exact absurd long (by decide)
  rw [receivedFrame, beforeCheck_sealed, request]
  simp [checked]

/-! ## Reading back what was laid out (12.2, 12.3) -/

/-- A frame whose last two bytes are not its check field (R171). -/
theorem receivedFrame_unchecked {bytes : List Byte} {a b : Byte} (wrong : [a, b] ≠ checkField (crc bytes)) :
    receivedFrame (bytes ++ [a, b]) = .frameCheckFailed := by
  refine receivedFrame_fails fun checked => ?_
  rw [frameCheck, Bool.and_eq_true, crcCorrect_iff] at checked
  obtain ⟨⟨-, body, same⟩, -⟩ := checked
  obtain ⟨rfl, field⟩ := List.append_inj' same rfl
  exact wrong field

/-- Byte 2 of a data REQUEST (12.2). -/
theorem requester_byte_data : ∀ q : Requester, ((byte (q.val * 8)).extractLsb' 3 3).toFin = q ∧
    ((byte (q.val * 8)).extractLsb' 6 2).toNat = 0 ∧ (byte (q.val * 8)).extractLsb' 0 3 = 0 := by decide

/-- Byte 2 of a management REQUEST (12.2). -/
theorem requester_byte_management : ∀ q : Requester, ((byte (0x40 + q.val * 8)).extractLsb' 3 3).toFin = q ∧
    ((byte (0x40 + q.val * 8)).extractLsb' 6 2).toNat = 1 ∧ (byte (0x40 + q.val * 8)).extractLsb' 0 3 = 0 := by decide

/-- Byte 3 of a REQUEST (12.2). -/
theorem tag_byte : ∀ g : Tag, ((byte g.val).extractLsb' 0 6).toFin = g ∧ (byte g.val).extractLsb' 6 2 = 0 := by decide

theorem DataFrame.length_bytes (f : DataFrame) : f.bytes.length = 10 + 4 * f.payload.length := by
  rw [DataFrame.bytes, List.length_append, length_flatMap_bytesOf]
  simp [bytesOf]

theorem MgmtFrame.length_bytes (f : MgmtFrame) (code : Byte) : (f.bytes code).length = 6 + 4 * f.operands.length := by
  rw [MgmtFrame.bytes, List.length_append, length_flatMap_bytesOf]
  rfl

theorem receivedFrame_data {f : DataFrame} (formed : f.malformed = false) (fits : f.fits = true) :
    receivedFrame (sealed f.bytes) = .dataRequest f := by
  have few : f.payload.length ≤ 60 := by simpa [DataFrame.fits, formed] using fits
  have length := DataFrame.length_bytes f
  have lengthByte : (byteAt f.bytes 1).toNat = 12 + 4 * f.payload.length := toNat_byte (by omega)
  obtain ⟨requester, pool, zeros⟩ := requester_byte_data f.requester
  obtain ⟨tag, clear⟩ := tag_byte f.tag
  have pool : poolField f.bytes = 0 := pool
  have header : headerBytes f.bytes = 10 := if_pos pool
  have wellFormed : isMalformed (sealed f.bytes) = f.malformed := by
    rw [formed, ← Bool.not_eq_true, isMalformed_request rfl, header, pool]
    rintro (short | short | part | (set | set) | ⟨other, _⟩)
    exacts [short (by omega), absurd short (by omega), part (by omega), set zeros, set clear, absurd other (by decide)]
  have requester : requesterField f.bytes = f.requester := requester
  have tag : tagField f.bytes = f.tag := tag
  have address : wordOf (byteAt f.bytes 6) (byteAt f.bytes 7) (byteAt f.bytes 8) (byteAt f.bytes 9) = f.address := wordOf_bytesOf f.address
  have payload : wordsOf (f.bytes.drop 10) = f.payload := wordsOf_flatMap_bytesOf f.payload
  rw [receivedFrame_request rfl (by omega) (by omega), if_pos pool, header, wellFormed, requester, tag, address, payload]
  rfl

theorem receivedFrame_management {f : MgmtFrame} (code : Byte) (formed : f.malformed = false) (fits : f.fits = true) :
    receivedFrame (sealed (f.bytes code)) = commandOf code f := by
  have few : f.operands.length ≤ 61 := by simpa [MgmtFrame.fits, formed] using fits
  have length := MgmtFrame.length_bytes f code
  have lengthByte : (byteAt (f.bytes code) 1).toNat = 8 + 4 * f.operands.length := toNat_byte (by omega)
  obtain ⟨requester, pool, zeros⟩ := requester_byte_management f.requester
  obtain ⟨tag, clear⟩ := tag_byte f.tag
  have pool : poolField (f.bytes code) = 1 := pool
  have header : headerBytes (f.bytes code) = 6 := if_neg (by omega)
  have wellFormed : isMalformed (sealed (f.bytes code)) = f.malformed := by
    rw [formed, ← Bool.not_eq_true, isMalformed_request rfl, header]
    rintro (short | short | part | (set | set) | ⟨_, set⟩)
    exacts [short (by omega), absurd short (by omega), part (by omega), set zeros, set clear, set rfl]
  have requester : requesterField (f.bytes code) = f.requester := requester
  have tag : tagField (f.bytes code) = f.tag := tag
  have operands : wordsOf ((f.bytes code).drop 6) = f.operands := wordsOf_flatMap_bytesOf f.operands
  rw [receivedFrame_request rfl (by omega) (by omega), if_neg (by omega), header, wellFormed, requester, tag, operands]
  rfl

/-! ## Delimiters (R171) -/

/-- The bytes of a frame in progress are collected. -/
theorem receivedLine_collects (bytes got : List Byte) (line : List LineSymbol) :
    receivedLine (some got) (bytes.map .byte ++ line) = receivedLine (some (got ++ bytes)) line := by
  induction bytes generalizing got with
  | nil => rw [List.append_nil]; rfl
  | cons b bytes ih =>
    have step := ih (got ++ [b])
    rw [List.append_assoc] at step
    exact step

/-- Bytes outside a frame are passed over (log 9). -/
theorem receivedLine_passes (bytes : List Byte) (line : List LineSymbol) :
    receivedLine none (bytes.map .byte ++ line) = receivedLine none line := by
  induction bytes with
  | nil => rfl
  | cons b bytes ih => exact ih

/-- Settles O12: the command codes, the frame check and its grounds, reading back, and the delimiters. -/
theorem receivedFramesAreRead : Obligations.ReceivedFramesAreRead := by
  refine ⟨fun f => ⟨?_, fun b unknown => commandOf_unknown f unknown⟩, fun body => ⟨fun fails => ?_, fun idle => receivedFrame_idle idle,
      fun reset => receivedFrame_linkReset reset, fun request long => ⟨fun pool => ?_, fun pool => ?_⟩⟩,
    fun f formed fits => receivedFrame_data formed fits, fun code f formed fits => receivedFrame_management code formed fits,
    receivedFrame_idle rfl, receivedFrame_linkReset rfl, fun bytes a b wrong => receivedFrame_unchecked wrong,
    fun bytes progress line => ⟨?_, ?_, receivedLine_passes bytes line, rfl, ?_⟩⟩
  · simp [commandOf]
  · refine receivedFrame_fails fun checked => ?_
    rw [frameCheck_sealed, kindAccepted_iff] at checked
    obtain ⟨held, kind⟩ := checked
    rcases fails with empty | ⟨notRequest, notIdle, notReset⟩ | ⟨request, bad⟩
    · exact held empty
    · rcases kind with ⟨is, -⟩ | is | is
      exacts [notRequest is, notIdle is, notReset is]
    · rcases kind with ⟨-, long, pool⟩ | is | is
      · rcases bad with short | ⟨notData, notManagement⟩
        · omega
        · exact absurd pool (poolField_other notData notManagement)
      · exact absurd (request.symm.trans is) (by decide)
      · exact absurd (request.symm.trans is) (by decide)
  · have data : poolField body = 0 := congrArg BitVec.toNat pool
    have header : headerBytes body = 10 := if_pos data
    refine ⟨_, (receivedFrame_request request long (by omega)).trans (if_pos data), rfl, rfl, rfl, rfl, bytesOf_wordOf _ _ _ _, ?_⟩
    rw [isMalformed_request request, header, data]
    simp
  · have management : poolField body = 1 := congrArg BitVec.toNat pool
    have header : headerBytes body = 6 := if_neg (by omega)
    refine ⟨_, (receivedFrame_request request long (by omega)).trans (if_neg (by omega)), rfl, rfl, ?_⟩
    rw [isMalformed_request request, header, management]
    simp
  · exact receivedLine_collects bytes [] _
  · exact receivedLine_collects bytes [] _
  · cases progress <;> rfl

end Sys2Proof.Machine
end
